-- ==== Sys2Proof/Word.lean ====
section
/-! DEFINITION. The widths of the hardware (R5, R7): an 8-bit byte, a 16-bit word, a 20-bit physical address. -/

namespace Sys2Proof

/-- A byte: the smallest addressable unit of memory (R5). -/
abbrev Byte := BitVec 8

/-- A word: the width of every register (R5). -/
abbrev Word := BitVec 16

/-- A physical address, 0x00000 to 0xFFFFF (R5, R60). -/
abbrev PhysAddr := BitVec 20

end Sys2Proof
end

