-- ==== Sys2Proof/Syntax.lean ====
section
/-! DEFINITION. The instructions: one constructor of `Instr` for each row of spec/opcode_table.json, and the operands
they carry (R13, R20, R22, R25, R92 to R94, R97 to R99). Register numbers and ModR/M fields are turned into names here. -/

namespace Sys2Proof

/-- The 16-bit general registers in the order of their encoding (R20). -/
inductive Reg16 where
  | ax | cx | dx | bx | sp | bp | si | di
  deriving DecidableEq, Repr

/-- The 8-bit registers in the order of their encoding (R22). -/
inductive Reg8 where
  | al | cl | dl | bl | ah | ch | dh | bh
  deriving DecidableEq, Repr

/-- The segment registers in the order of their encoding (R25). -/
inductive SegReg where
  | es | cs | ss | ds
  deriving DecidableEq, Repr

/-- The base expressions of the memory modes in the order of the `rm` field (R94). -/
inductive Base where
  | bxsi | bxdi | bpsi | bpdi | si | di | bp | bx
  deriving DecidableEq, Repr

/-- A ModR/M memory operand (R93, R94, R166): `mod` = 0 without a displacement, the direct address of `mod` = 0 `rm` = 6,
`mod` = 1 and `mod` = 2. `base .bp` is no encoding: `mod` = 0 `rm` = 6 is the direct address. -/
inductive MemAddr where
  | base (b : Base)
  | direct (a : Word)
  | disp8 (b : Base) (d : Byte)
  | disp16 (b : Base) (d : Word)
  deriving DecidableEq, Repr

/-- The `E` operand (R13, R93): a register when `mod` = 3, else memory. `R` is `Reg8` in a byte form, `Reg16` in a word form. -/
inductive Operand (R : Type) where
  | reg (r : R)
  | mem (a : MemAddr)
  deriving DecidableEq, Repr

/-- The eight ALU operations in the order of their number `k` (R97, R99, R139). -/
inductive AluOp where
  | add | or | adc | sbb | and | sub | xor | cmp
  deriving DecidableEq, Repr

/-- The sixteen jump conditions in opcode order (R378). -/
inductive Cond where
  | jo | jno | jb | jnb | jz | jnz | jbe | ja | js | jns | jpe | jpo | jl | jge | jle | jg
  deriving DecidableEq, Repr

/-- The instructions. In the ModR/M forms `g` is the register the `reg` field names and `e` the `mod`/`rm` operand;
`imm`, `ow` and `d` are the immediate, the direct offset and the jump displacement as encoded. -/
inductive Instr where
  -- The 48 ALU opcodes 0x00 to 0x3D (R97, R219): eight operations in six operand forms.
  | addEbGb (g : Reg8) (e : Operand Reg8) | addEvGv (g : Reg16) (e : Operand Reg16)
  | addGbEb (g : Reg8) (e : Operand Reg8) | addGvEv (g : Reg16) (e : Operand Reg16) | addALIb (imm : Byte)
  | addAXIv (imm : Word) | orEbGb (g : Reg8) (e : Operand Reg8) | orEvGv (g : Reg16) (e : Operand Reg16)
  | orGbEb (g : Reg8) (e : Operand Reg8) | orGvEv (g : Reg16) (e : Operand Reg16) | orALIb (imm : Byte)
  | orAXIv (imm : Word) | adcEbGb (g : Reg8) (e : Operand Reg8) | adcEvGv (g : Reg16) (e : Operand Reg16)
  | adcGbEb (g : Reg8) (e : Operand Reg8) | adcGvEv (g : Reg16) (e : Operand Reg16) | adcALIb (imm : Byte)
  | adcAXIv (imm : Word) | sbbEbGb (g : Reg8) (e : Operand Reg8) | sbbEvGv (g : Reg16) (e : Operand Reg16)
  | sbbGbEb (g : Reg8) (e : Operand Reg8) | sbbGvEv (g : Reg16) (e : Operand Reg16) | sbbALIb (imm : Byte)
  | sbbAXIv (imm : Word) | andEbGb (g : Reg8) (e : Operand Reg8) | andEvGv (g : Reg16) (e : Operand Reg16)
  | andGbEb (g : Reg8) (e : Operand Reg8) | andGvEv (g : Reg16) (e : Operand Reg16) | andALIb (imm : Byte)
  | andAXIv (imm : Word) | subEbGb (g : Reg8) (e : Operand Reg8) | subEvGv (g : Reg16) (e : Operand Reg16)
  | subGbEb (g : Reg8) (e : Operand Reg8) | subGvEv (g : Reg16) (e : Operand Reg16) | subALIb (imm : Byte)
  | subAXIv (imm : Word) | xorEbGb (g : Reg8) (e : Operand Reg8) | xorEvGv (g : Reg16) (e : Operand Reg16)
  | xorGbEb (g : Reg8) (e : Operand Reg8) | xorGvEv (g : Reg16) (e : Operand Reg16) | xorALIb (imm : Byte)
  | xorAXIv (imm : Word) | cmpEbGb (g : Reg8) (e : Operand Reg8) | cmpEvGv (g : Reg16) (e : Operand Reg16)
  | cmpGbEb (g : Reg8) (e : Operand Reg8) | cmpGvEv (g : Reg16) (e : Operand Reg16) | cmpALIb (imm : Byte)
  | cmpAXIv (imm : Word)
  -- Group 1, opcodes 0x80 to 0x83 (R99, R269): the ModR/M `reg` field is part of the constructor.
  | addEbIb80 (e : Operand Reg8) (imm : Byte) | orEbIb80 (e : Operand Reg8) (imm : Byte)
  | adcEbIb80 (e : Operand Reg8) (imm : Byte) | sbbEbIb80 (e : Operand Reg8) (imm : Byte)
  | andEbIb80 (e : Operand Reg8) (imm : Byte) | subEbIb80 (e : Operand Reg8) (imm : Byte)
  | xorEbIb80 (e : Operand Reg8) (imm : Byte) | cmpEbIb80 (e : Operand Reg8) (imm : Byte)
  | addEvIv81 (e : Operand Reg16) (imm : Word) | orEvIv81 (e : Operand Reg16) (imm : Word)
  | adcEvIv81 (e : Operand Reg16) (imm : Word) | sbbEvIv81 (e : Operand Reg16) (imm : Word)
  | andEvIv81 (e : Operand Reg16) (imm : Word) | subEvIv81 (e : Operand Reg16) (imm : Word)
  | xorEvIv81 (e : Operand Reg16) (imm : Word) | cmpEvIv81 (e : Operand Reg16) (imm : Word)
  | addEbIb82 (e : Operand Reg8) (imm : Byte) | orEbIb82 (e : Operand Reg8) (imm : Byte)
  | adcEbIb82 (e : Operand Reg8) (imm : Byte) | sbbEbIb82 (e : Operand Reg8) (imm : Byte)
  | andEbIb82 (e : Operand Reg8) (imm : Byte) | subEbIb82 (e : Operand Reg8) (imm : Byte)
  | xorEbIb82 (e : Operand Reg8) (imm : Byte) | cmpEbIb82 (e : Operand Reg8) (imm : Byte)
  | addEvIb83 (e : Operand Reg16) (imm : Byte) | orEvIb83 (e : Operand Reg16) (imm : Byte)
  | adcEvIb83 (e : Operand Reg16) (imm : Byte) | sbbEvIb83 (e : Operand Reg16) (imm : Byte)
  | andEvIb83 (e : Operand Reg16) (imm : Byte) | subEvIb83 (e : Operand Reg16) (imm : Byte)
  | xorEvIb83 (e : Operand Reg16) (imm : Byte) | cmpEvIb83 (e : Operand Reg16) (imm : Byte)
  -- TEST (R302, R303).
  | testEbGb (g : Reg8) (e : Operand Reg8) | testEvGv (g : Reg16) (e : Operand Reg16)
  -- INC r16 (R310).
  | incAX | incCX | incDX | incBX | incSP | incBP | incSI | incDI
  -- DEC r16 (R311).
  | decAX | decCX | decDX | decBX | decSP | decBP | decSI | decDI
  -- BCD adjust (R313 to R317).
  | daa | das | aaa | aas
  -- MOV r8,Ib (R330).
  | movALIb (imm : Byte) | movCLIb (imm : Byte) | movDLIb (imm : Byte) | movBLIb (imm : Byte) | movAHIb (imm : Byte)
  | movCHIb (imm : Byte) | movDHIb (imm : Byte) | movBHIb (imm : Byte)
  -- MOV r16,Iv (R331).
  | movAXIv (imm : Word) | movCXIv (imm : Word) | movDXIv (imm : Word) | movBXIv (imm : Word) | movSPIv (imm : Word)
  | movBPIv (imm : Word) | movSIIv (imm : Word) | movDIIv (imm : Word)
  -- MOV with a direct offset (R333 to R337).
  | movALMem (ow : Word) | movAXMem (ow : Word) | movMemAL (ow : Word) | movMemAX (ow : Word)
  -- XCHG Eb,Gb and Ev,Gv (R338, R339).
  | xchgEbGb (g : Reg8) (e : Operand Reg8) | xchgEvGv (g : Reg16) (e : Operand Reg16)
  -- NOP (R342).
  | nop
  -- XCHG AX,r16 (R343).
  | xchgAXCX | xchgAXDX | xchgAXBX | xchgAXSP | xchgAXBP | xchgAXSI | xchgAXDI
  -- PUSH r16 (R344).
  | pushAX | pushCX | pushDX | pushBX | pushSP | pushBP | pushSI | pushDI
  -- POP r16 (R345).
  | popAX | popCX | popDX | popBX | popSP | popBP | popSI | popDI
  -- Jcc rel8 (R361 to R376).
  | joRel8 (d : Byte) | jnoRel8 (d : Byte) | jbRel8 (d : Byte) | jnbRel8 (d : Byte) | jzRel8 (d : Byte)
  | jnzRel8 (d : Byte) | jbeRel8 (d : Byte) | jaRel8 (d : Byte) | jsRel8 (d : Byte) | jnsRel8 (d : Byte)
  | jpeRel8 (d : Byte) | jpoRel8 (d : Byte) | jlRel8 (d : Byte) | jgeRel8 (d : Byte) | jleRel8 (d : Byte)
  | jgRel8 (d : Byte)
  -- JMP rel8 (R377).
  | jmpRel8 (d : Byte)
  -- The segment-override and repeat prefixes (R193, R195).
  | prefixES | prefixCS | prefixSS | prefixDS | repne | rep
  -- HLT (R200).
  | hlt
  -- The 31 undefined opcode bytes, one-byte no-ops (R103, R198).
  | undef0F | undef60 | undef61 | undef62 | undef63 | undef64 | undef65 | undef66 | undef67 | undef68 | undef69
  | undef6A | undef6B | undef6C | undef6D | undef6E | undef6F | undefC0 | undefC1 | undefC8 | undefC9 | undefD6
  | escD8 | escD9 | escDA | escDB | escDC | escDD | escDE | escDF | undefF1
  -- The 81 uncovered opcode bytes, which have no operands here because the spec gives them no length (R104, R199).
  | pushES | popES | pushCS | pushSS | popSS | pushDS | popDS | movEbGb | movEvGv | movGbEb | movGvEv | movEwSw | lea
  | movSwEw | popEv | cbw | cwd | callFar | wait | pushf | popf | sahf | lahf | movsb | movsw | cmpsb | cmpsw
  | testALIb | testAXIv | stosb | stosw | lodsb | lodsw | scasb | scasw | retIw | ret | les | lds | movEbIb | movEvIv
  | retfIw | retf | int3 | intIb | into | iret | shiftEb1 | shiftEv1 | shiftEbCL | shiftEvCL | aam | aad | xlat
  | loopnz | loopz | loop | jcxz | inALIb | inAXIb | outIbAL | outIbAX | callRel16 | jmpRel16 | jmpFar | inALDX
  | inAXDX | outDXAL | outDXAX | lock | cmc | grp3Eb | grp3Ev | clc | stc | cli | sti | cld | std | grp4Eb | grp5Ev
  deriving DecidableEq, Repr

end Sys2Proof
end

