-- ==== Sys2Proof/WellFormed.lean ====
section
/-! DEFINITION. Which instruction terms are instructions of the hardware: the ones some byte sequence encodes. The one term
shape with no encoding is a memory operand `[BP]` without displacement (R94, R166). -/

namespace Sys2Proof

/-- R94: `mod` = 0 with `rm` = 6 is the direct address, so BP never stands alone. -/
def MemAddr.wf : MemAddr → Bool
  | .base b => b != .bp
  | .direct _ | .disp8 _ _ | .disp16 _ _ => true

/-- A register operand is always well formed (R94: every `mod` and `rm` is legal). -/
def Operand.wf {R : Type} : Operand R → Bool
  | .reg _ => true
  | .mem a => a.wf

/-- An instruction is well formed when its ModR/M operand is. -/
def Instr.wf : Instr → Bool
  | .addEbGb _ e => e.wf
  | .addEvGv _ e => e.wf
  | .addGbEb _ e => e.wf
  | .addGvEv _ e => e.wf
  | .orEbGb _ e => e.wf
  | .orEvGv _ e => e.wf
  | .orGbEb _ e => e.wf
  | .orGvEv _ e => e.wf
  | .adcEbGb _ e => e.wf
  | .adcEvGv _ e => e.wf
  | .adcGbEb _ e => e.wf
  | .adcGvEv _ e => e.wf
  | .sbbEbGb _ e => e.wf
  | .sbbEvGv _ e => e.wf
  | .sbbGbEb _ e => e.wf
  | .sbbGvEv _ e => e.wf
  | .andEbGb _ e => e.wf
  | .andEvGv _ e => e.wf
  | .andGbEb _ e => e.wf
  | .andGvEv _ e => e.wf
  | .subEbGb _ e => e.wf
  | .subEvGv _ e => e.wf
  | .subGbEb _ e => e.wf
  | .subGvEv _ e => e.wf
  | .xorEbGb _ e => e.wf
  | .xorEvGv _ e => e.wf
  | .xorGbEb _ e => e.wf
  | .xorGvEv _ e => e.wf
  | .cmpEbGb _ e => e.wf
  | .cmpEvGv _ e => e.wf
  | .cmpGbEb _ e => e.wf
  | .cmpGvEv _ e => e.wf
  | .addEbIb80 e _ => e.wf
  | .orEbIb80 e _ => e.wf
  | .adcEbIb80 e _ => e.wf
  | .sbbEbIb80 e _ => e.wf
  | .andEbIb80 e _ => e.wf
  | .subEbIb80 e _ => e.wf
  | .xorEbIb80 e _ => e.wf
  | .cmpEbIb80 e _ => e.wf
  | .addEvIv81 e _ => e.wf
  | .orEvIv81 e _ => e.wf
  | .adcEvIv81 e _ => e.wf
  | .sbbEvIv81 e _ => e.wf
  | .andEvIv81 e _ => e.wf
  | .subEvIv81 e _ => e.wf
  | .xorEvIv81 e _ => e.wf
  | .cmpEvIv81 e _ => e.wf
  | .addEbIb82 e _ => e.wf
  | .orEbIb82 e _ => e.wf
  | .adcEbIb82 e _ => e.wf
  | .sbbEbIb82 e _ => e.wf
  | .andEbIb82 e _ => e.wf
  | .subEbIb82 e _ => e.wf
  | .xorEbIb82 e _ => e.wf
  | .cmpEbIb82 e _ => e.wf
  | .addEvIb83 e _ => e.wf
  | .orEvIb83 e _ => e.wf
  | .adcEvIb83 e _ => e.wf
  | .sbbEvIb83 e _ => e.wf
  | .andEvIb83 e _ => e.wf
  | .subEvIb83 e _ => e.wf
  | .xorEvIb83 e _ => e.wf
  | .cmpEvIb83 e _ => e.wf
  | .testEbGb _ e => e.wf
  | .testEvGv _ e => e.wf
  | .xchgEbGb _ e => e.wf
  | .xchgEvGv _ e => e.wf
  | .addALIb _ | .addAXIv _ | .orALIb _ | .orAXIv _ | .adcALIb _ | .adcAXIv _ | .sbbALIb _ | .sbbAXIv _ | .andALIb _
  | .andAXIv _ | .subALIb _ | .subAXIv _ | .xorALIb _ | .xorAXIv _ | .cmpALIb _ | .cmpAXIv _ | .incAX | .incCX
  | .incDX | .incBX | .incSP | .incBP | .incSI | .incDI | .decAX | .decCX | .decDX | .decBX | .decSP | .decBP | .decSI
  | .decDI | .daa | .das | .aaa | .aas | .movALIb _ | .movCLIb _ | .movDLIb _ | .movBLIb _ | .movAHIb _ | .movCHIb _
  | .movDHIb _ | .movBHIb _ | .movAXIv _ | .movCXIv _ | .movDXIv _ | .movBXIv _ | .movSPIv _ | .movBPIv _ | .movSIIv _
  | .movDIIv _ | .movALMem _ | .movAXMem _ | .movMemAL _ | .movMemAX _ | .nop | .xchgAXCX | .xchgAXDX | .xchgAXBX
  | .xchgAXSP | .xchgAXBP | .xchgAXSI | .xchgAXDI | .pushAX | .pushCX | .pushDX | .pushBX | .pushSP | .pushBP
  | .pushSI | .pushDI | .popAX | .popCX | .popDX | .popBX | .popSP | .popBP | .popSI | .popDI | .joRel8 _ | .jnoRel8 _
  | .jbRel8 _ | .jnbRel8 _ | .jzRel8 _ | .jnzRel8 _ | .jbeRel8 _ | .jaRel8 _ | .jsRel8 _ | .jnsRel8 _ | .jpeRel8 _
  | .jpoRel8 _ | .jlRel8 _ | .jgeRel8 _ | .jleRel8 _ | .jgRel8 _ | .jmpRel8 _ | .prefixES | .prefixCS | .prefixSS
  | .prefixDS | .repne | .rep | .hlt | .undef0F | .undef60 | .undef61 | .undef62 | .undef63 | .undef64 | .undef65
  | .undef66 | .undef67 | .undef68 | .undef69 | .undef6A | .undef6B | .undef6C | .undef6D | .undef6E | .undef6F
  | .undefC0 | .undefC1 | .undefC8 | .undefC9 | .undefD6 | .escD8 | .escD9 | .escDA | .escDB | .escDC | .escDD
  | .escDE | .escDF | .undefF1 | .pushES | .popES | .pushCS | .pushSS | .popSS | .pushDS | .popDS | .movEbGb
  | .movEvGv | .movGbEb | .movGvEv | .movEwSw | .lea | .movSwEw | .popEv | .cbw | .cwd | .callFar | .wait | .pushf
  | .popf | .sahf | .lahf | .movsb | .movsw | .cmpsb | .cmpsw | .testALIb | .testAXIv | .stosb | .stosw | .lodsb
  | .lodsw | .scasb | .scasw | .retIw | .ret | .les | .lds | .movEbIb | .movEvIv | .retfIw | .retf | .int3 | .intIb
  | .into | .iret | .shiftEb1 | .shiftEv1 | .shiftEbCL | .shiftEvCL | .aam | .aad | .xlat | .loopnz | .loopz | .loop
  | .jcxz | .inALIb | .inAXIb | .outIbAL | .outIbAX | .callRel16 | .jmpRel16 | .jmpFar | .inALDX | .inAXDX | .outDXAL
  | .outDXAX | .lock | .cmc | .grp3Eb | .grp3Ev | .clc | .stc | .cli | .sti | .cld | .std | .grp4Eb | .grp5Ev => true

end Sys2Proof
end

