-- ==== Sys2Proof/Decode.lean ====
section
/-! DEFINITION. Decoding, total on any bytes, and the encoder, each written from 30_encoding.md (R90 to R110). -/

namespace Sys2Proof

/-! ### Fields and byte order -/

/-- `hi ++ lo` (R7, R10, R95). -/
def wordOf (lo hi : Byte) : Word := hi ++ lo

/-- Bits 7:0. -/
def lowByte (v : Word) : Byte := v.extractLsb' 0 8

/-- Bits 15:8. -/
def highByte (v : Word) : Byte := v.extractLsb' 8 8

/-- `sext_16` (R7). -/
def sext16 (b : Byte) : Word := b.signExtend 16

/-- A 16-bit field in instruction bytes, low byte first (R95). -/
def leBytes (v : Word) : List Byte := [lowByte v, highByte v]

/-- The ModR/M byte from its fields (R92). -/
def modrmByte (mod : BitVec 2) (reg rm : BitVec 3) : Byte := mod ++ reg ++ rm

/-- ModR/M bits 7:6 (R92). -/
def modField (b : Byte) : BitVec 2 := b.extractLsb' 6 2

/-- ModR/M bits 5:3 (R92). -/
def regField (b : Byte) : BitVec 3 := b.extractLsb' 3 3

/-- ModR/M bits 2:0 (R92). -/
def rmField (b : Byte) : BitVec 3 := b.extractLsb' 0 3

/-! ### Register, base and operation numbers -/

/-- The encoding of a 16-bit register (R20). -/
def Reg16.code : Reg16 → BitVec 3
  | .ax => 0#3 | .cx => 1#3 | .dx => 2#3 | .bx => 3#3 | .sp => 4#3 | .bp => 5#3 | .si => 6#3 | .di => 7#3

/-- The 16-bit register an encoding names (R20). -/
def Reg16.ofCode (c : BitVec 3) : Reg16 :=
  #v[Reg16.ax, .cx, .dx, .bx, .sp, .bp, .si, .di][c.toNat]

/-- The encoding of an 8-bit register (R22). -/
def Reg8.code : Reg8 → BitVec 3
  | .al => 0#3 | .cl => 1#3 | .dl => 2#3 | .bl => 3#3 | .ah => 4#3 | .ch => 5#3 | .dh => 6#3 | .bh => 7#3

/-- The 8-bit register an encoding names (R22). -/
def Reg8.ofCode (c : BitVec 3) : Reg8 :=
  #v[Reg8.al, .cl, .dl, .bl, .ah, .ch, .dh, .bh][c.toNat]

/-- The `rm` value of a base expression (R94). -/
def Base.code : Base → BitVec 3
  | .bxsi => 0#3 | .bxdi => 1#3 | .bpsi => 2#3 | .bpdi => 3#3 | .si => 4#3 | .di => 5#3 | .bp => 6#3 | .bx => 7#3

/-- The base expression an `rm` value names (R94). -/
def Base.ofCode (c : BitVec 3) : Base :=
  #v[Base.bxsi, .bxdi, .bpsi, .bpdi, .si, .di, .bp, .bx][c.toNat]

/-- The ALU operation a `reg` field selects in group 1 (R99). -/
def AluOp.ofCode (c : BitVec 3) : AluOp :=
  #v[AluOp.add, .or, .adc, .sbb, .and, .sub, .xor, .cmp][c.toNat]

/-- The `mod` field of a memory operand (R93). -/
def MemAddr.modCode : MemAddr → BitVec 2
  | .base _ | .direct _ => 0#2
  | .disp8 _ _ => 1#2
  | .disp16 _ _ => 2#2

/-- The `rm` field of a memory operand (R93, R94). -/
def MemAddr.rmCode : MemAddr → BitVec 3
  | .base b | .disp8 b _ | .disp16 b _ => b.code
  | .direct _ => 6#3

/-- The displacement or direct-address bytes of a memory operand (R93, R95). -/
def MemAddr.dispBytes : MemAddr → List Byte
  | .base _ => []
  | .direct a => leBytes a
  | .disp8 _ d => [d]
  | .disp16 _ d => leBytes d

/-- The `mod` field of an `E` operand (R93). -/
def Operand.modCode {R : Type} : Operand R → BitVec 2
  | .reg _ => 3#2
  | .mem a => a.modCode

/-- The `rm` field of an `E` operand (R93, R94). -/
def Operand.rmCode {R : Type} (code : R → BitVec 3) : Operand R → BitVec 3
  | .reg r => code r
  | .mem a => a.rmCode

/-- The displacement bytes of an `E` operand (R93). -/
def Operand.dispBytes {R : Type} : Operand R → List Byte
  | .reg _ => []
  | .mem a => a.dispBytes

/-! ### The opcode map -/

/-- How the bytes after an opcode byte are read (R91), and the instruction they make. -/
inductive Form where
  /-- `OP`, `OPR`, `PFX`, undefined and uncovered opcodes: nothing follows (R91, R102). -/
  | bare (i : Instr)
  /-- `AI8`, `RI8`, `REL8`: one byte follows. -/
  | imm8 (mk : Byte → Instr)
  /-- `AI16`, `RI16`, `MOFFS`: two bytes follow. -/
  | imm16 (mk : Word → Instr)
  /-- `MR` with byte operands. -/
  | mrByte (mk : Reg8 → Operand Reg8 → Instr)
  /-- `MR` with word operands. -/
  | mrWord (mk : Reg16 → Operand Reg16 → Instr)
  /-- `MI8` with a byte operand (0x80, 0x82). -/
  | miByte (mk : AluOp → Operand Reg8 → Byte → Instr)
  /-- `MI16` (0x81). -/
  | miWord (mk : AluOp → Operand Reg16 → Word → Instr)
  /-- `MI8` with a word operand (0x83). -/
  | miSext (mk : AluOp → Operand Reg16 → Byte → Instr)

/-- R99: the group-1 re-dispatch of opcode 0x80 on the operation the `reg` field selects. -/
def Instr.group80 : AluOp → Operand Reg8 → Byte → Instr
  | .add => .addEbIb80
  | .or => .orEbIb80
  | .adc => .adcEbIb80
  | .sbb => .sbbEbIb80
  | .and => .andEbIb80
  | .sub => .subEbIb80
  | .xor => .xorEbIb80
  | .cmp => .cmpEbIb80

/-- R99: the group-1 re-dispatch of opcode 0x81 on the operation the `reg` field selects. -/
def Instr.group81 : AluOp → Operand Reg16 → Word → Instr
  | .add => .addEvIv81
  | .or => .orEvIv81
  | .adc => .adcEvIv81
  | .sbb => .sbbEvIv81
  | .and => .andEvIv81
  | .sub => .subEvIv81
  | .xor => .xorEvIv81
  | .cmp => .cmpEvIv81

/-- R99: the group-1 re-dispatch of opcode 0x82 on the operation the `reg` field selects. -/
def Instr.group82 : AluOp → Operand Reg8 → Byte → Instr
  | .add => .addEbIb82
  | .or => .orEbIb82
  | .adc => .adcEbIb82
  | .sbb => .sbbEbIb82
  | .and => .andEbIb82
  | .sub => .subEbIb82
  | .xor => .xorEbIb82
  | .cmp => .cmpEbIb82

/-- R99: the group-1 re-dispatch of opcode 0x83 on the operation the `reg` field selects. -/
def Instr.group83 : AluOp → Operand Reg16 → Byte → Instr
  | .add => .addEvIb83
  | .or => .orEvIb83
  | .adc => .adcEvIb83
  | .sbb => .sbbEvIb83
  | .and => .andEvIb83
  | .sub => .subEvIb83
  | .xor => .xorEvIb83
  | .cmp => .cmpEvIb83

/-- R101, opcode bytes 0x00 to 0x0F. -/
def opcodeRow0 : Vector Form 16 :=
  #v[
    .mrByte .addEbGb, .mrWord .addEvGv, .mrByte .addGbEb, .mrWord .addGvEv, .imm8 .addALIb, .imm16 .addAXIv,
    .bare .pushES, .bare .popES, .mrByte .orEbGb, .mrWord .orEvGv, .mrByte .orGbEb, .mrWord .orGvEv, .imm8 .orALIb,
    .imm16 .orAXIv, .bare .pushCS, .bare .undef0F]

/-- R101, opcode bytes 0x10 to 0x1F. -/
def opcodeRow1 : Vector Form 16 :=
  #v[
    .mrByte .adcEbGb, .mrWord .adcEvGv, .mrByte .adcGbEb, .mrWord .adcGvEv, .imm8 .adcALIb, .imm16 .adcAXIv,
    .bare .pushSS, .bare .popSS, .mrByte .sbbEbGb, .mrWord .sbbEvGv, .mrByte .sbbGbEb, .mrWord .sbbGvEv,
    .imm8 .sbbALIb, .imm16 .sbbAXIv, .bare .pushDS, .bare .popDS]

/-- R101, opcode bytes 0x20 to 0x2F. -/
def opcodeRow2 : Vector Form 16 :=
  #v[
    .mrByte .andEbGb, .mrWord .andEvGv, .mrByte .andGbEb, .mrWord .andGvEv, .imm8 .andALIb, .imm16 .andAXIv,
    .bare .prefixES, .bare .daa, .mrByte .subEbGb, .mrWord .subEvGv, .mrByte .subGbEb, .mrWord .subGvEv,
    .imm8 .subALIb, .imm16 .subAXIv, .bare .prefixCS, .bare .das]

/-- R101, opcode bytes 0x30 to 0x3F. -/
def opcodeRow3 : Vector Form 16 :=
  #v[
    .mrByte .xorEbGb, .mrWord .xorEvGv, .mrByte .xorGbEb, .mrWord .xorGvEv, .imm8 .xorALIb, .imm16 .xorAXIv,
    .bare .prefixSS, .bare .aaa, .mrByte .cmpEbGb, .mrWord .cmpEvGv, .mrByte .cmpGbEb, .mrWord .cmpGvEv,
    .imm8 .cmpALIb, .imm16 .cmpAXIv, .bare .prefixDS, .bare .aas]

/-- R101, opcode bytes 0x40 to 0x4F. -/
def opcodeRow4 : Vector Form 16 :=
  #v[
    .bare .incAX, .bare .incCX, .bare .incDX, .bare .incBX, .bare .incSP, .bare .incBP, .bare .incSI, .bare .incDI,
    .bare .decAX, .bare .decCX, .bare .decDX, .bare .decBX, .bare .decSP, .bare .decBP, .bare .decSI, .bare .decDI]

/-- R101, opcode bytes 0x50 to 0x5F. -/
def opcodeRow5 : Vector Form 16 :=
  #v[
    .bare .pushAX, .bare .pushCX, .bare .pushDX, .bare .pushBX, .bare .pushSP, .bare .pushBP, .bare .pushSI,
    .bare .pushDI, .bare .popAX, .bare .popCX, .bare .popDX, .bare .popBX, .bare .popSP, .bare .popBP, .bare .popSI,
    .bare .popDI]

/-- R101, opcode bytes 0x60 to 0x6F. -/
def opcodeRow6 : Vector Form 16 :=
  #v[
    .bare .undef60, .bare .undef61, .bare .undef62, .bare .undef63, .bare .undef64, .bare .undef65, .bare .undef66,
    .bare .undef67, .bare .undef68, .bare .undef69, .bare .undef6A, .bare .undef6B, .bare .undef6C, .bare .undef6D,
    .bare .undef6E, .bare .undef6F]

/-- R101, opcode bytes 0x70 to 0x7F. -/
def opcodeRow7 : Vector Form 16 :=
  #v[
    .imm8 .joRel8, .imm8 .jnoRel8, .imm8 .jbRel8, .imm8 .jnbRel8, .imm8 .jzRel8, .imm8 .jnzRel8, .imm8 .jbeRel8,
    .imm8 .jaRel8, .imm8 .jsRel8, .imm8 .jnsRel8, .imm8 .jpeRel8, .imm8 .jpoRel8, .imm8 .jlRel8, .imm8 .jgeRel8,
    .imm8 .jleRel8, .imm8 .jgRel8]

/-- R101, opcode bytes 0x80 to 0x8F. -/
def opcodeRow8 : Vector Form 16 :=
  #v[
    .miByte .group80, .miWord .group81, .miByte .group82, .miSext .group83, .mrByte .testEbGb, .mrWord .testEvGv,
    .mrByte .xchgEbGb, .mrWord .xchgEvGv, .bare .movEbGb, .bare .movEvGv, .bare .movGbEb, .bare .movGvEv,
    .bare .movEwSw, .bare .lea, .bare .movSwEw, .bare .popEv]

/-- R101, opcode bytes 0x90 to 0x9F. -/
def opcodeRow9 : Vector Form 16 :=
  #v[
    .bare .nop, .bare .xchgAXCX, .bare .xchgAXDX, .bare .xchgAXBX, .bare .xchgAXSP, .bare .xchgAXBP, .bare .xchgAXSI,
    .bare .xchgAXDI, .bare .cbw, .bare .cwd, .bare .callFar, .bare .wait, .bare .pushf, .bare .popf, .bare .sahf,
    .bare .lahf]

/-- R101, opcode bytes 0xA0 to 0xAF. -/
def opcodeRowA : Vector Form 16 :=
  #v[
    .imm16 .movALMem, .imm16 .movAXMem, .imm16 .movMemAL, .imm16 .movMemAX, .bare .movsb, .bare .movsw, .bare .cmpsb,
    .bare .cmpsw, .bare .testALIb, .bare .testAXIv, .bare .stosb, .bare .stosw, .bare .lodsb, .bare .lodsw,
    .bare .scasb, .bare .scasw]

/-- R101, opcode bytes 0xB0 to 0xBF. -/
def opcodeRowB : Vector Form 16 :=
  #v[
    .imm8 .movALIb, .imm8 .movCLIb, .imm8 .movDLIb, .imm8 .movBLIb, .imm8 .movAHIb, .imm8 .movCHIb, .imm8 .movDHIb,
    .imm8 .movBHIb, .imm16 .movAXIv, .imm16 .movCXIv, .imm16 .movDXIv, .imm16 .movBXIv, .imm16 .movSPIv,
    .imm16 .movBPIv, .imm16 .movSIIv, .imm16 .movDIIv]

/-- R101, opcode bytes 0xC0 to 0xCF. -/
def opcodeRowC : Vector Form 16 :=
  #v[
    .bare .undefC0, .bare .undefC1, .bare .retIw, .bare .ret, .bare .les, .bare .lds, .bare .movEbIb, .bare .movEvIv,
    .bare .undefC8, .bare .undefC9, .bare .retfIw, .bare .retf, .bare .int3, .bare .intIb, .bare .into, .bare .iret]

/-- R101, opcode bytes 0xD0 to 0xDF. -/
def opcodeRowD : Vector Form 16 :=
  #v[
    .bare .shiftEb1, .bare .shiftEv1, .bare .shiftEbCL, .bare .shiftEvCL, .bare .aam, .bare .aad, .bare .undefD6,
    .bare .xlat, .bare .escD8, .bare .escD9, .bare .escDA, .bare .escDB, .bare .escDC, .bare .escDD, .bare .escDE,
    .bare .escDF]

/-- R101, opcode bytes 0xE0 to 0xEF. -/
def opcodeRowE : Vector Form 16 :=
  #v[
    .bare .loopnz, .bare .loopz, .bare .loop, .bare .jcxz, .bare .inALIb, .bare .inAXIb, .bare .outIbAL,
    .bare .outIbAX, .bare .callRel16, .bare .jmpRel16, .bare .jmpFar, .imm8 .jmpRel8, .bare .inALDX, .bare .inAXDX,
    .bare .outDXAL, .bare .outDXAX]

/-- R101, opcode bytes 0xF0 to 0xFF. -/
def opcodeRowF : Vector Form 16 :=
  #v[
    .bare .lock, .bare .undefF1, .bare .repne, .bare .rep, .bare .hlt, .bare .cmc, .bare .grp3Eb, .bare .grp3Ev,
    .bare .clc, .bare .stc, .bare .cli, .bare .sti, .bare .cld, .bare .std, .bare .grp4Eb, .bare .grp5Ev]

/-- R101: the 256-entry opcode handler table, by the high nibble and then the low nibble. -/
def opcodeMap : Vector (Vector Form 16) 16 :=
  #v[opcodeRow0, opcodeRow1, opcodeRow2, opcodeRow3, opcodeRow4, opcodeRow5, opcodeRow6, opcodeRow7,
    opcodeRow8, opcodeRow9, opcodeRowA, opcodeRowB, opcodeRowC, opcodeRowD, opcodeRowE, opcodeRowF]

/-- The table entry of an opcode byte (R190 step 2). -/
def formOf (op : Byte) : Form :=
  opcodeMap[op.toNat / 16][op.toNat % 16]

/-! ### Decoding -/

/-- Why bytes give no instruction. Every byte value opens some instruction (R110), so running out of bytes is the only way. -/
inductive DecodeError where
  | truncated
  deriving DecidableEq, Repr

/-- `Fetch8` from a list of bytes (R10). -/
def takeByte : List Byte → Except DecodeError (Byte × List Byte)
  | [] => .error .truncated
  | b :: rest => .ok (b, rest)

/-- `Fetch16` from a list of bytes, low byte first (R10). -/
def takeWord : List Byte → Except DecodeError (Word × List Byte)
  | lo :: hi :: rest => .ok (wordOf lo hi, rest)
  | _ => .error .truncated

/-- The memory operand that `mod` ≠ 3 and `rm` select, with its displacement (R93, R94, R163). -/
def takeMemAddr (mod : BitVec 2) (rm : BitVec 3) (bs : List Byte) : Except DecodeError (MemAddr × List Byte) :=
  if mod = 0#2 then
    if rm = 6#3 then (takeWord bs).map fun (a, rest) => (.direct a, rest)
    else .ok (.base (Base.ofCode rm), bs)
  else if mod = 1#2 then (takeByte bs).map fun (d, rest) => (.disp8 (Base.ofCode rm) d, rest)
  else (takeWord bs).map fun (d, rest) => (.disp16 (Base.ofCode rm) d, rest)

/-- The ModR/M byte and its displacement (R92 to R94, R160): the `reg` field, the `E` operand and the bytes left. -/
def takeModRM {R : Type} (ofCode : BitVec 3 → R) (bs : List Byte) :
    Except DecodeError (BitVec 3 × Operand R × List Byte) :=
  (takeByte bs).bind fun (b, bs) =>
    if modField b = 3#2 then .ok (regField b, .reg (ofCode (rmField b)), bs)
    else (takeMemAddr (modField b) (rmField b) bs).map fun (a, rest) => (regField b, .mem a, rest)

/-- The fields after the opcode byte, read as its form says (R90, R91, R102). -/
def Form.read (f : Form) (bs : List Byte) : Except DecodeError (Instr × List Byte) :=
  match f with
  | .bare i => .ok (i, bs)
  | .imm8 mk => (takeByte bs).map fun (v, rest) => (mk v, rest)
  | .imm16 mk => (takeWord bs).map fun (v, rest) => (mk v, rest)
  | .mrByte mk => (takeModRM Reg8.ofCode bs).map fun (g, e, rest) => (mk (Reg8.ofCode g) e, rest)
  | .mrWord mk => (takeModRM Reg16.ofCode bs).map fun (g, e, rest) => (mk (Reg16.ofCode g) e, rest)
  | .miByte mk => (takeModRM Reg8.ofCode bs).bind fun (k, e, rest) =>
      (takeByte rest).map fun (v, rest) => (mk (AluOp.ofCode k) e v, rest)
  | .miWord mk => (takeModRM Reg16.ofCode bs).bind fun (k, e, rest) =>
      (takeWord rest).map fun (v, rest) => (mk (AluOp.ofCode k) e v, rest)
  | .miSext mk => (takeModRM Reg16.ofCode bs).bind fun (k, e, rest) =>
      (takeByte rest).map fun (v, rest) => (mk (AluOp.ofCode k) e v, rest)

/-- The first instruction of a byte sequence, and the bytes after it (R90, R110). A prefix byte is an instruction of its own
here, as it is an iteration of its own in the dispatch loop (R106, R190). -/
def decode (bs : List Byte) : Except DecodeError (Instr × List Byte) :=
  (takeByte bs).bind fun (op, rest) => (formOf op).read rest

/-- The longest instruction without prefixes is six bytes (R90). -/
def maxLength : Nat := 6

/-- The `n` low bytes of a number, the lowest first. -/
def bytesOfNat : Nat → Nat → List Byte
  | 0, _ => []
  | n + 1, w => BitVec.ofNat 8 w :: bytesOfNat n (w / 256)

/-- The instruction whose table bits are the low `nbits` bits of `w`, bit 0 the least significant bit of its first byte. -/
def decodeTableWord (nbits w : Nat) : Option Instr :=
  match decode (bytesOfNat maxLength (w % 2 ^ nbits)) with
  | .ok (i, _) => some i
  | .error _ => none

/-! ### Encoding -/

/-- The ModR/M byte and displacement of an `E` operand beside a `reg` field (R92, R93). -/
def encodeModRM {R : Type} (reg : BitVec 3) (code : R → BitVec 3) (e : Operand R) : List Byte :=
  modrmByte e.modCode reg (e.rmCode code) :: e.dispBytes

/-- The bytes of an instruction (R91, R97 to R101). -/
def encode : Instr → List Byte
  | .addEbGb g e => 0x00#8 :: encodeModRM g.code Reg8.code e
  | .addEvGv g e => 0x01#8 :: encodeModRM g.code Reg16.code e
  | .addGbEb g e => 0x02#8 :: encodeModRM g.code Reg8.code e
  | .addGvEv g e => 0x03#8 :: encodeModRM g.code Reg16.code e
  | .addALIb imm => [0x04#8, imm]
  | .addAXIv imm => 0x05#8 :: leBytes imm
  | .orEbGb g e => 0x08#8 :: encodeModRM g.code Reg8.code e
  | .orEvGv g e => 0x09#8 :: encodeModRM g.code Reg16.code e
  | .orGbEb g e => 0x0A#8 :: encodeModRM g.code Reg8.code e
  | .orGvEv g e => 0x0B#8 :: encodeModRM g.code Reg16.code e
  | .orALIb imm => [0x0C#8, imm]
  | .orAXIv imm => 0x0D#8 :: leBytes imm
  | .adcEbGb g e => 0x10#8 :: encodeModRM g.code Reg8.code e
  | .adcEvGv g e => 0x11#8 :: encodeModRM g.code Reg16.code e
  | .adcGbEb g e => 0x12#8 :: encodeModRM g.code Reg8.code e
  | .adcGvEv g e => 0x13#8 :: encodeModRM g.code Reg16.code e
  | .adcALIb imm => [0x14#8, imm]
  | .adcAXIv imm => 0x15#8 :: leBytes imm
  | .sbbEbGb g e => 0x18#8 :: encodeModRM g.code Reg8.code e
  | .sbbEvGv g e => 0x19#8 :: encodeModRM g.code Reg16.code e
  | .sbbGbEb g e => 0x1A#8 :: encodeModRM g.code Reg8.code e
  | .sbbGvEv g e => 0x1B#8 :: encodeModRM g.code Reg16.code e
  | .sbbALIb imm => [0x1C#8, imm]
  | .sbbAXIv imm => 0x1D#8 :: leBytes imm
  | .andEbGb g e => 0x20#8 :: encodeModRM g.code Reg8.code e
  | .andEvGv g e => 0x21#8 :: encodeModRM g.code Reg16.code e
  | .andGbEb g e => 0x22#8 :: encodeModRM g.code Reg8.code e
  | .andGvEv g e => 0x23#8 :: encodeModRM g.code Reg16.code e
  | .andALIb imm => [0x24#8, imm]
  | .andAXIv imm => 0x25#8 :: leBytes imm
  | .subEbGb g e => 0x28#8 :: encodeModRM g.code Reg8.code e
  | .subEvGv g e => 0x29#8 :: encodeModRM g.code Reg16.code e
  | .subGbEb g e => 0x2A#8 :: encodeModRM g.code Reg8.code e
  | .subGvEv g e => 0x2B#8 :: encodeModRM g.code Reg16.code e
  | .subALIb imm => [0x2C#8, imm]
  | .subAXIv imm => 0x2D#8 :: leBytes imm
  | .xorEbGb g e => 0x30#8 :: encodeModRM g.code Reg8.code e
  | .xorEvGv g e => 0x31#8 :: encodeModRM g.code Reg16.code e
  | .xorGbEb g e => 0x32#8 :: encodeModRM g.code Reg8.code e
  | .xorGvEv g e => 0x33#8 :: encodeModRM g.code Reg16.code e
  | .xorALIb imm => [0x34#8, imm]
  | .xorAXIv imm => 0x35#8 :: leBytes imm
  | .cmpEbGb g e => 0x38#8 :: encodeModRM g.code Reg8.code e
  | .cmpEvGv g e => 0x39#8 :: encodeModRM g.code Reg16.code e
  | .cmpGbEb g e => 0x3A#8 :: encodeModRM g.code Reg8.code e
  | .cmpGvEv g e => 0x3B#8 :: encodeModRM g.code Reg16.code e
  | .cmpALIb imm => [0x3C#8, imm]
  | .cmpAXIv imm => 0x3D#8 :: leBytes imm
  | .addEbIb80 e imm => 0x80#8 :: (encodeModRM 0#3 Reg8.code e ++ [imm])
  | .orEbIb80 e imm => 0x80#8 :: (encodeModRM 1#3 Reg8.code e ++ [imm])
  | .adcEbIb80 e imm => 0x80#8 :: (encodeModRM 2#3 Reg8.code e ++ [imm])
  | .sbbEbIb80 e imm => 0x80#8 :: (encodeModRM 3#3 Reg8.code e ++ [imm])
  | .andEbIb80 e imm => 0x80#8 :: (encodeModRM 4#3 Reg8.code e ++ [imm])
  | .subEbIb80 e imm => 0x80#8 :: (encodeModRM 5#3 Reg8.code e ++ [imm])
  | .xorEbIb80 e imm => 0x80#8 :: (encodeModRM 6#3 Reg8.code e ++ [imm])
  | .cmpEbIb80 e imm => 0x80#8 :: (encodeModRM 7#3 Reg8.code e ++ [imm])
  | .addEvIv81 e imm => 0x81#8 :: (encodeModRM 0#3 Reg16.code e ++ leBytes imm)
  | .orEvIv81 e imm => 0x81#8 :: (encodeModRM 1#3 Reg16.code e ++ leBytes imm)
  | .adcEvIv81 e imm => 0x81#8 :: (encodeModRM 2#3 Reg16.code e ++ leBytes imm)
  | .sbbEvIv81 e imm => 0x81#8 :: (encodeModRM 3#3 Reg16.code e ++ leBytes imm)
  | .andEvIv81 e imm => 0x81#8 :: (encodeModRM 4#3 Reg16.code e ++ leBytes imm)
  | .subEvIv81 e imm => 0x81#8 :: (encodeModRM 5#3 Reg16.code e ++ leBytes imm)
  | .xorEvIv81 e imm => 0x81#8 :: (encodeModRM 6#3 Reg16.code e ++ leBytes imm)
  | .cmpEvIv81 e imm => 0x81#8 :: (encodeModRM 7#3 Reg16.code e ++ leBytes imm)
  | .addEbIb82 e imm => 0x82#8 :: (encodeModRM 0#3 Reg8.code e ++ [imm])
  | .orEbIb82 e imm => 0x82#8 :: (encodeModRM 1#3 Reg8.code e ++ [imm])
  | .adcEbIb82 e imm => 0x82#8 :: (encodeModRM 2#3 Reg8.code e ++ [imm])
  | .sbbEbIb82 e imm => 0x82#8 :: (encodeModRM 3#3 Reg8.code e ++ [imm])
  | .andEbIb82 e imm => 0x82#8 :: (encodeModRM 4#3 Reg8.code e ++ [imm])
  | .subEbIb82 e imm => 0x82#8 :: (encodeModRM 5#3 Reg8.code e ++ [imm])
  | .xorEbIb82 e imm => 0x82#8 :: (encodeModRM 6#3 Reg8.code e ++ [imm])
  | .cmpEbIb82 e imm => 0x82#8 :: (encodeModRM 7#3 Reg8.code e ++ [imm])
  | .addEvIb83 e imm => 0x83#8 :: (encodeModRM 0#3 Reg16.code e ++ [imm])
  | .orEvIb83 e imm => 0x83#8 :: (encodeModRM 1#3 Reg16.code e ++ [imm])
  | .adcEvIb83 e imm => 0x83#8 :: (encodeModRM 2#3 Reg16.code e ++ [imm])
  | .sbbEvIb83 e imm => 0x83#8 :: (encodeModRM 3#3 Reg16.code e ++ [imm])
  | .andEvIb83 e imm => 0x83#8 :: (encodeModRM 4#3 Reg16.code e ++ [imm])
  | .subEvIb83 e imm => 0x83#8 :: (encodeModRM 5#3 Reg16.code e ++ [imm])
  | .xorEvIb83 e imm => 0x83#8 :: (encodeModRM 6#3 Reg16.code e ++ [imm])
  | .cmpEvIb83 e imm => 0x83#8 :: (encodeModRM 7#3 Reg16.code e ++ [imm])
  | .testEbGb g e => 0x84#8 :: encodeModRM g.code Reg8.code e
  | .testEvGv g e => 0x85#8 :: encodeModRM g.code Reg16.code e
  | .incAX => [0x40#8]
  | .incCX => [0x41#8]
  | .incDX => [0x42#8]
  | .incBX => [0x43#8]
  | .incSP => [0x44#8]
  | .incBP => [0x45#8]
  | .incSI => [0x46#8]
  | .incDI => [0x47#8]
  | .decAX => [0x48#8]
  | .decCX => [0x49#8]
  | .decDX => [0x4A#8]
  | .decBX => [0x4B#8]
  | .decSP => [0x4C#8]
  | .decBP => [0x4D#8]
  | .decSI => [0x4E#8]
  | .decDI => [0x4F#8]
  | .daa => [0x27#8]
  | .das => [0x2F#8]
  | .aaa => [0x37#8]
  | .aas => [0x3F#8]
  | .movALIb imm => [0xB0#8, imm]
  | .movCLIb imm => [0xB1#8, imm]
  | .movDLIb imm => [0xB2#8, imm]
  | .movBLIb imm => [0xB3#8, imm]
  | .movAHIb imm => [0xB4#8, imm]
  | .movCHIb imm => [0xB5#8, imm]
  | .movDHIb imm => [0xB6#8, imm]
  | .movBHIb imm => [0xB7#8, imm]
  | .movAXIv imm => 0xB8#8 :: leBytes imm
  | .movCXIv imm => 0xB9#8 :: leBytes imm
  | .movDXIv imm => 0xBA#8 :: leBytes imm
  | .movBXIv imm => 0xBB#8 :: leBytes imm
  | .movSPIv imm => 0xBC#8 :: leBytes imm
  | .movBPIv imm => 0xBD#8 :: leBytes imm
  | .movSIIv imm => 0xBE#8 :: leBytes imm
  | .movDIIv imm => 0xBF#8 :: leBytes imm
  | .movALMem ow => 0xA0#8 :: leBytes ow
  | .movAXMem ow => 0xA1#8 :: leBytes ow
  | .movMemAL ow => 0xA2#8 :: leBytes ow
  | .movMemAX ow => 0xA3#8 :: leBytes ow
  | .xchgEbGb g e => 0x86#8 :: encodeModRM g.code Reg8.code e
  | .xchgEvGv g e => 0x87#8 :: encodeModRM g.code Reg16.code e
  | .nop => [0x90#8]
  | .xchgAXCX => [0x91#8]
  | .xchgAXDX => [0x92#8]
  | .xchgAXBX => [0x93#8]
  | .xchgAXSP => [0x94#8]
  | .xchgAXBP => [0x95#8]
  | .xchgAXSI => [0x96#8]
  | .xchgAXDI => [0x97#8]
  | .pushAX => [0x50#8]
  | .pushCX => [0x51#8]
  | .pushDX => [0x52#8]
  | .pushBX => [0x53#8]
  | .pushSP => [0x54#8]
  | .pushBP => [0x55#8]
  | .pushSI => [0x56#8]
  | .pushDI => [0x57#8]
  | .popAX => [0x58#8]
  | .popCX => [0x59#8]
  | .popDX => [0x5A#8]
  | .popBX => [0x5B#8]
  | .popSP => [0x5C#8]
  | .popBP => [0x5D#8]
  | .popSI => [0x5E#8]
  | .popDI => [0x5F#8]
  | .joRel8 d => [0x70#8, d]
  | .jnoRel8 d => [0x71#8, d]
  | .jbRel8 d => [0x72#8, d]
  | .jnbRel8 d => [0x73#8, d]
  | .jzRel8 d => [0x74#8, d]
  | .jnzRel8 d => [0x75#8, d]
  | .jbeRel8 d => [0x76#8, d]
  | .jaRel8 d => [0x77#8, d]
  | .jsRel8 d => [0x78#8, d]
  | .jnsRel8 d => [0x79#8, d]
  | .jpeRel8 d => [0x7A#8, d]
  | .jpoRel8 d => [0x7B#8, d]
  | .jlRel8 d => [0x7C#8, d]
  | .jgeRel8 d => [0x7D#8, d]
  | .jleRel8 d => [0x7E#8, d]
  | .jgRel8 d => [0x7F#8, d]
  | .jmpRel8 d => [0xEB#8, d]
  | .prefixES => [0x26#8]
  | .prefixCS => [0x2E#8]
  | .prefixSS => [0x36#8]
  | .prefixDS => [0x3E#8]
  | .repne => [0xF2#8]
  | .rep => [0xF3#8]
  | .hlt => [0xF4#8]
  | .undef0F => [0x0F#8]
  | .undef60 => [0x60#8]
  | .undef61 => [0x61#8]
  | .undef62 => [0x62#8]
  | .undef63 => [0x63#8]
  | .undef64 => [0x64#8]
  | .undef65 => [0x65#8]
  | .undef66 => [0x66#8]
  | .undef67 => [0x67#8]
  | .undef68 => [0x68#8]
  | .undef69 => [0x69#8]
  | .undef6A => [0x6A#8]
  | .undef6B => [0x6B#8]
  | .undef6C => [0x6C#8]
  | .undef6D => [0x6D#8]
  | .undef6E => [0x6E#8]
  | .undef6F => [0x6F#8]
  | .undefC0 => [0xC0#8]
  | .undefC1 => [0xC1#8]
  | .undefC8 => [0xC8#8]
  | .undefC9 => [0xC9#8]
  | .undefD6 => [0xD6#8]
  | .escD8 => [0xD8#8]
  | .escD9 => [0xD9#8]
  | .escDA => [0xDA#8]
  | .escDB => [0xDB#8]
  | .escDC => [0xDC#8]
  | .escDD => [0xDD#8]
  | .escDE => [0xDE#8]
  | .escDF => [0xDF#8]
  | .undefF1 => [0xF1#8]
  | .pushES => [0x06#8]
  | .popES => [0x07#8]
  | .pushCS => [0x0E#8]
  | .pushSS => [0x16#8]
  | .popSS => [0x17#8]
  | .pushDS => [0x1E#8]
  | .popDS => [0x1F#8]
  | .movEbGb => [0x88#8]
  | .movEvGv => [0x89#8]
  | .movGbEb => [0x8A#8]
  | .movGvEv => [0x8B#8]
  | .movEwSw => [0x8C#8]
  | .lea => [0x8D#8]
  | .movSwEw => [0x8E#8]
  | .popEv => [0x8F#8]
  | .cbw => [0x98#8]
  | .cwd => [0x99#8]
  | .callFar => [0x9A#8]
  | .wait => [0x9B#8]
  | .pushf => [0x9C#8]
  | .popf => [0x9D#8]
  | .sahf => [0x9E#8]
  | .lahf => [0x9F#8]
  | .movsb => [0xA4#8]
  | .movsw => [0xA5#8]
  | .cmpsb => [0xA6#8]
  | .cmpsw => [0xA7#8]
  | .testALIb => [0xA8#8]
  | .testAXIv => [0xA9#8]
  | .stosb => [0xAA#8]
  | .stosw => [0xAB#8]
  | .lodsb => [0xAC#8]
  | .lodsw => [0xAD#8]
  | .scasb => [0xAE#8]
  | .scasw => [0xAF#8]
  | .retIw => [0xC2#8]
  | .ret => [0xC3#8]
  | .les => [0xC4#8]
  | .lds => [0xC5#8]
  | .movEbIb => [0xC6#8]
  | .movEvIv => [0xC7#8]
  | .retfIw => [0xCA#8]
  | .retf => [0xCB#8]
  | .int3 => [0xCC#8]
  | .intIb => [0xCD#8]
  | .into => [0xCE#8]
  | .iret => [0xCF#8]
  | .shiftEb1 => [0xD0#8]
  | .shiftEv1 => [0xD1#8]
  | .shiftEbCL => [0xD2#8]
  | .shiftEvCL => [0xD3#8]
  | .aam => [0xD4#8]
  | .aad => [0xD5#8]
  | .xlat => [0xD7#8]
  | .loopnz => [0xE0#8]
  | .loopz => [0xE1#8]
  | .loop => [0xE2#8]
  | .jcxz => [0xE3#8]
  | .inALIb => [0xE4#8]
  | .inAXIb => [0xE5#8]
  | .outIbAL => [0xE6#8]
  | .outIbAX => [0xE7#8]
  | .callRel16 => [0xE8#8]
  | .jmpRel16 => [0xE9#8]
  | .jmpFar => [0xEA#8]
  | .inALDX => [0xEC#8]
  | .inAXDX => [0xED#8]
  | .outDXAL => [0xEE#8]
  | .outDXAX => [0xEF#8]
  | .lock => [0xF0#8]
  | .cmc => [0xF5#8]
  | .grp3Eb => [0xF6#8]
  | .grp3Ev => [0xF7#8]
  | .clc => [0xF8#8]
  | .stc => [0xF9#8]
  | .cli => [0xFA#8]
  | .sti => [0xFB#8]
  | .cld => [0xFC#8]
  | .std => [0xFD#8]
  | .grp4Eb => [0xFE#8]
  | .grp5Ev => [0xFF#8]

/-! ### Classes of instructions -/

/-- R106: the instructions that set transient state and consume no budget. -/
def Instr.isPrefix : Instr → Bool
  | .prefixES | .prefixCS | .prefixSS | .prefixDS | .repne | .rep => true
  | .addEbGb _ _ | .addEvGv _ _ | .addGbEb _ _ | .addGvEv _ _ | .addALIb _ | .addAXIv _ | .orEbGb _ _ | .orEvGv _ _
  | .orGbEb _ _ | .orGvEv _ _ | .orALIb _ | .orAXIv _ | .adcEbGb _ _ | .adcEvGv _ _ | .adcGbEb _ _ | .adcGvEv _ _
  | .adcALIb _ | .adcAXIv _ | .sbbEbGb _ _ | .sbbEvGv _ _ | .sbbGbEb _ _ | .sbbGvEv _ _ | .sbbALIb _ | .sbbAXIv _
  | .andEbGb _ _ | .andEvGv _ _ | .andGbEb _ _ | .andGvEv _ _ | .andALIb _ | .andAXIv _ | .subEbGb _ _ | .subEvGv _ _
  | .subGbEb _ _ | .subGvEv _ _ | .subALIb _ | .subAXIv _ | .xorEbGb _ _ | .xorEvGv _ _ | .xorGbEb _ _ | .xorGvEv _ _
  | .xorALIb _ | .xorAXIv _ | .cmpEbGb _ _ | .cmpEvGv _ _ | .cmpGbEb _ _ | .cmpGvEv _ _ | .cmpALIb _ | .cmpAXIv _
  | .addEbIb80 _ _ | .orEbIb80 _ _ | .adcEbIb80 _ _ | .sbbEbIb80 _ _ | .andEbIb80 _ _ | .subEbIb80 _ _
  | .xorEbIb80 _ _ | .cmpEbIb80 _ _ | .addEvIv81 _ _ | .orEvIv81 _ _ | .adcEvIv81 _ _ | .sbbEvIv81 _ _
  | .andEvIv81 _ _ | .subEvIv81 _ _ | .xorEvIv81 _ _ | .cmpEvIv81 _ _ | .addEbIb82 _ _ | .orEbIb82 _ _
  | .adcEbIb82 _ _ | .sbbEbIb82 _ _ | .andEbIb82 _ _ | .subEbIb82 _ _ | .xorEbIb82 _ _ | .cmpEbIb82 _ _
  | .addEvIb83 _ _ | .orEvIb83 _ _ | .adcEvIb83 _ _ | .sbbEvIb83 _ _ | .andEvIb83 _ _ | .subEvIb83 _ _
  | .xorEvIb83 _ _ | .cmpEvIb83 _ _ | .testEbGb _ _ | .testEvGv _ _ | .incAX | .incCX | .incDX | .incBX | .incSP
  | .incBP | .incSI | .incDI | .decAX | .decCX | .decDX | .decBX | .decSP | .decBP | .decSI | .decDI | .daa | .das
  | .aaa | .aas | .movALIb _ | .movCLIb _ | .movDLIb _ | .movBLIb _ | .movAHIb _ | .movCHIb _ | .movDHIb _
  | .movBHIb _ | .movAXIv _ | .movCXIv _ | .movDXIv _ | .movBXIv _ | .movSPIv _ | .movBPIv _ | .movSIIv _ | .movDIIv _
  | .movALMem _ | .movAXMem _ | .movMemAL _ | .movMemAX _ | .xchgEbGb _ _ | .xchgEvGv _ _ | .nop | .xchgAXCX
  | .xchgAXDX | .xchgAXBX | .xchgAXSP | .xchgAXBP | .xchgAXSI | .xchgAXDI | .pushAX | .pushCX | .pushDX | .pushBX
  | .pushSP | .pushBP | .pushSI | .pushDI | .popAX | .popCX | .popDX | .popBX | .popSP | .popBP | .popSI | .popDI
  | .joRel8 _ | .jnoRel8 _ | .jbRel8 _ | .jnbRel8 _ | .jzRel8 _ | .jnzRel8 _ | .jbeRel8 _ | .jaRel8 _ | .jsRel8 _
  | .jnsRel8 _ | .jpeRel8 _ | .jpoRel8 _ | .jlRel8 _ | .jgeRel8 _ | .jleRel8 _ | .jgRel8 _ | .jmpRel8 _ | .hlt
  | .undef0F | .undef60 | .undef61 | .undef62 | .undef63 | .undef64 | .undef65 | .undef66 | .undef67 | .undef68
  | .undef69 | .undef6A | .undef6B | .undef6C | .undef6D | .undef6E | .undef6F | .undefC0 | .undefC1 | .undefC8
  | .undefC9 | .undefD6 | .escD8 | .escD9 | .escDA | .escDB | .escDC | .escDD | .escDE | .escDF | .undefF1 | .pushES
  | .popES | .pushCS | .pushSS | .popSS | .pushDS | .popDS | .movEbGb | .movEvGv | .movGbEb | .movGvEv | .movEwSw
  | .lea | .movSwEw | .popEv | .cbw | .cwd | .callFar | .wait | .pushf | .popf | .sahf | .lahf | .movsb | .movsw
  | .cmpsb | .cmpsw | .testALIb | .testAXIv | .stosb | .stosw | .lodsb | .lodsw | .scasb | .scasw | .retIw | .ret
  | .les | .lds | .movEbIb | .movEvIv | .retfIw | .retf | .int3 | .intIb | .into | .iret | .shiftEb1 | .shiftEv1
  | .shiftEbCL | .shiftEvCL | .aam | .aad | .xlat | .loopnz | .loopz | .loop | .jcxz | .inALIb | .inAXIb | .outIbAL
  | .outIbAX | .callRel16 | .jmpRel16 | .jmpFar | .inALDX | .inAXDX | .outDXAL | .outDXAX | .lock | .cmc | .grp3Eb
  | .grp3Ev | .clc | .stc | .cli | .sti | .cld | .std | .grp4Eb | .grp5Ev => false

end Sys2Proof
end

