-- ==== Sys2Proof/Config.lean ====
section
/-! DEFINITION. The named parameters of R6, the defaults 92_eei_decisions.md gives them, and the one source of free values.
`Params` is the argument a machine is built with: every statement holds for every value of it unless it says otherwise. -/

namespace Sys2Proof

/-- `LOGIC_AF` (R6, D12): what AND, OR, XOR and TEST write into AF. -/
inductive LogicAf where
  | zero
  | any
  deriving DecidableEq, Repr

/-- `BCD_SIDE_FLAGS` (R6, D13): the flags the BCD adjusts write beside AF and CF. -/
inductive BcdSideFlags where
  | asRules
  | any
  deriving DecidableEq, Repr

/-- `UNCOVERED_POLICY` (R6, D2): the spec gives this parameter one value. -/
inductive UncoveredPolicy where
  | refuse
  deriving DecidableEq, Repr

/-- `IP_RESET` (D16): IP after reset. -/
def Config.ipReset : Word := 0x0000#16

/-- What a byte of RAM reads as when neither the host nor a program has written it (log 1). -/
def Config.ramFill : Byte := 0x00#8

/-- `RAM_INIT` (D16, R442): the bytes the host has placed before reset; every other byte reads `ramFill`. -/
def Config.ramInit : List Host.Cell := []

/-- `HALT_SET`, default (D4): the opcode bytes that raise the halt condition. -/
def Config.haltSet : List Byte := [0xF4#8]

/-- `UNDEF_SET`, default (R103, D3): the opcode bytes that run as a one-byte no-op. -/
def Config.undefSet : List Byte :=
  [0x0F#8, 0x60#8, 0x61#8, 0x62#8, 0x63#8, 0x64#8, 0x65#8, 0x66#8, 0x67#8, 0x68#8, 0x69#8, 0x6A#8, 0x6B#8,
   0x6C#8, 0x6D#8, 0x6E#8, 0x6F#8] ++
  [0xC0#8, 0xC1#8, 0xC8#8, 0xC9#8, 0xD6#8, 0xF1#8] ++
  [0xD8#8, 0xD9#8, 0xDA#8, 0xDB#8, 0xDC#8, 0xDD#8, 0xDE#8, 0xDF#8]

/-- The parameters of R6 that say what instructions do. `IP_RESET`, `RAM_INIT` and the budget are arguments of
`State.resetWith` and of `execute`. -/
structure Params where
  /-- `LOGIC_AF` (log 2). -/
  logicAf : LogicAf
  /-- `BCD_SIDE_FLAGS` (log 3). -/
  bcdSideFlags : BcdSideFlags
  /-- `UNCOVERED_POLICY` (log 4). -/
  uncoveredPolicy : UncoveredPolicy
  /-- `UNDEF_SET` (log 6). -/
  undefSet : List Byte
  /-- `HALT_SET` (log 6). -/
  haltSet : List Byte
  deriving DecidableEq, Repr

/-- The defaults of R6: `LOGIC_AF` zero (R138), `BCD_SIDE_FLAGS` as R314 to R317 say, `UNCOVERED_POLICY` refuse (R199). -/
def Config.params : Params where
  logicAf := .zero
  bcdSideFlags := .asRules
  uncoveredPolicy := .refuse
  undefSet := Config.undefSet
  haltSet := Config.haltSet

/-- A flag the spec lets take any value (U1, U2 under `any`): the `n`-th draw. No body: nothing can know its value. -/
opaque Config.freeFlag (n : Nat) : Bool

end Sys2Proof
end

