-- ==== Sys2Proof/Machine/State.lean ====
section
/-! DEFINITION. The state of the block as plain data (10_state.md R20 to R41), its reset value, and why a step may stop. -/

namespace Sys2Proof.Machine

/-- The eight 16-bit general registers (R20). The 8-bit registers are their bytes (R22) and have no storage of their own. -/
structure Regs where
  ax : Word
  cx : Word
  dx : Word
  bx : Word
  sp : Word
  bp : Word
  si : Word
  di : Word
  deriving DecidableEq, Repr

/-- The four segment registers (R25). -/
structure SegRegs where
  es : Word
  cs : Word
  ss : Word
  ds : Word
  deriving DecidableEq, Repr

/-- The nine defined flags (R27). The seven reserved bits read 1 in every state (R28), so they need no storage. -/
structure Flags where
  CF : Bool
  PF : Bool
  AF : Bool
  ZF : Bool
  SF : Bool
  TF : Bool
  IF : Bool
  DF : Bool
  OF : Bool
  deriving DecidableEq, Repr

/-- The repeat-prefix field (R37). -/
inductive Rep where
  | none
  | repne
  | repe
  deriving DecidableEq, Repr

/-- The transient decode state (R34 to R37): the fields of the last ModR/M byte, the segment value and override mark, the
offset and the physical address of the last memory operand, and the repeat prefix. -/
structure Transient where
  mod : BitVec 2
  reg : BitVec 3
  rm : BitVec 3
  seg : Word
  segOverride : Bool
  off : Word
  ea : PhysAddr
  rep : Rep
  deriving DecidableEq, Repr

/-- RAM (R60): the bytes that differ from `Config.ramFill`, by rising physical address. -/
abbrev Memory := List Host.Cell

/-- Everything that survives from one step to the next (R20 to R40). Two fields are the model's own and no state of the block:
`draws` counts the free values taken under a parameter setting of `any` (log 11), and `params` is the argument R6 asks for, which
no step and no host action changes (log 21). -/
structure State where
  regs : Regs
  sregs : SegRegs
  flags : Flags
  ip : Word
  mem : Memory
  tr : Transient
  budget : Nat
  halted : Bool
  draws : Nat
  params : Params
  deriving DecidableEq, Repr

/-- The reset event (R41, R440 to R443): every register zero, the defined flags zero, IP at the seed, RAM as the host left
it, no prefix pending, no budget, not halted. The six fields the spec leaves unspecified are zero (log 5). The arguments are the
named parameters of R6: the settings, `IP_RESET` and `RAM_INIT`. -/
def State.resetWith (p : Params) (seed : Word) (ram : Memory) : State where
  regs := ⟨0#16, 0#16, 0#16, 0#16, 0#16, 0#16, 0#16, 0#16⟩
  sregs := ⟨0#16, 0#16, 0#16, 0#16⟩
  flags := ⟨false, false, false, false, false, false, false, false, false⟩
  ip := seed
  mem := ram
  tr := ⟨0#2, 0#3, 0#3, 0#16, false, 0#16, 0#20, .none⟩
  budget := 0
  halted := false
  draws := 0
  params := p

/-- The machine right after reset with the default parameters (R41, R446). -/
def State.reset : State := State.resetWith Config.params Config.ipReset Config.ramInit

/-- The set of exception causes is empty (R410, R417): no step of this block faults. -/
inductive Fault where
  deriving DecidableEq, Repr

/-- Why the model gives no next state. Each is safe: the model stops where the spec makes no promise. -/
inductive Refusal where
  /-- Raised by an arm of `exec` that has no meaning yet: safe. No arm of this model raises it. -/
  | notModelled (mnemonic : String)
  /-- Raised at a byte that is an uncovered opcode, with the byte, CS and the IP of the byte (R199): safe. -/
  | uncoveredOpcode (byte : Byte) (cs ip : Word)
  /-- Raised by `step` if six fetched bytes were too few for an instruction, which never happens: safe. -/
  | truncatedFetch
  /-- Raised by the host port when the host acts while `execute` runs (R48, R451, U6): safe. -/
  | hostDuringExecute
  /-- Raised by the host port on a byte other than 0 or 1 for a defined flag slot (R47, U9): safe. -/
  | hostFlagByte (slot : Nat) (byte : Byte)
  /-- Raised by the host port on an offset outside the host image (R46): safe. -/
  | hostOutsideImage (offset : Nat)
  deriving DecidableEq, Repr

/-- What an instruction, a step or a host action answers. -/
abbrev Result := Host.Outcome State Fault Refusal

end Sys2Proof.Machine
end

