-- ==== Sys2Proof/Machine/Ops.lean ====
section
/-! DEFINITION. The named operations over registers, memory, the stack, IP and the dispatch loop's transient state
(10_state.md, 20_memory.md, 42_dispatch_core.md). The block takes no exception and returns from none (R410, R414, R415),
so there is no operation for either. -/

namespace Sys2Proof.Machine

/-! ### General and segment registers -/

/-- R21, the read. -/
def Regs.get16 (g : Regs) : Reg16 → Word
  | .ax => g.ax | .cx => g.cx | .dx => g.dx | .bx => g.bx | .sp => g.sp | .bp => g.bp | .si => g.si | .di => g.di

/-- R21, the write of both bytes. -/
def Regs.set16 (g : Regs) (r : Reg16) (v : Word) : Regs :=
  match r with
  | .ax => { g with ax := v } | .cx => { g with cx := v } | .dx => { g with dx := v } | .bx => { g with bx := v }
  | .sp => { g with sp := v } | .bp => { g with bp := v } | .si => { g with si := v } | .di => { g with di := v }

/-- R22: the 16-bit register an 8-bit register is a byte of. -/
def home : Reg8 → Reg16
  | .al | .ah => .ax | .cl | .ch => .cx | .dl | .dh => .dx | .bl | .bh => .bx

/-- R22: encodings 4 to 7 are the high bytes. -/
def isHigh : Reg8 → Bool
  | .al | .cl | .dl | .bl => false
  | .ah | .ch | .dh | .bh => true

/-- R23, the read. -/
def Regs.get8 (g : Regs) (r : Reg8) : Byte :=
  if isHigh r then highByte (g.get16 (home r)) else lowByte (g.get16 (home r))

/-- R23, the write: the other byte of the register is kept. -/
def Regs.set8 (g : Regs) (r : Reg8) (v : Byte) : Regs :=
  g.set16 (home r)
    (if isHigh r then wordOf (lowByte (g.get16 (home r))) v else wordOf v (highByte (g.get16 (home r))))

/-- R25, the read. No instruction writes a segment register (R26). -/
def SegRegs.get (g : SegRegs) : SegReg → Word
  | .es => g.es | .cs => g.cs | .ss => g.ss | .ds => g.ds

def State.get16 (s : State) (r : Reg16) : Word := s.regs.get16 r
def State.set16 (s : State) (r : Reg16) (v : Word) : State := { s with regs := s.regs.set16 r v }
def State.get8 (s : State) (r : Reg8) : Byte := s.regs.get8 r
def State.set8 (s : State) (r : Reg8) (v : Byte) : State := { s with regs := s.regs.set8 r v }
def State.getSeg (s : State) (r : SegReg) : Word := s.sregs.get r

/-! ### Memory -/

/-- `MemRead(addr, 1)` (R9). -/
def Memory.read : Memory → Nat → Byte
  | [], _ => Config.ramFill
  | c :: m, a => if c.1 = a then c.2 else Memory.read m a

/-- A cell put before the first cell of a higher address. -/
def Memory.insert : Memory → Host.Cell → Memory
  | [], c => [c]
  | d :: m, c => if c.1 < d.1 then c :: d :: m else d :: Memory.insert m c

/-- `MemWrite(addr, 1, v)` (R9), keeping the canonical form: a byte that reads as the fill is not listed. -/
def Memory.write (m : Memory) (a : Nat) (v : Byte) : Memory :=
  if v = Config.ramFill then m.filter (fun c => c.1 != a)
  else Memory.insert (m.filter (fun c => c.1 != a)) (a, v)

/-- The canonical form: addresses strictly rising, inside the 1 MiB space (R60), no entry equal to the fill. -/
def Memory.wf (m : Memory) : Bool :=
  decide (m.Pairwise (fun c d => c.1 < d.1)) && m.all (fun c => c.2 != Config.ramFill && decide (c.1 < 2 ^ 20))

/-- R62: the segment shifted and added to the offset, modulo 2^20. -/
def phys (seg off : Word) : PhysAddr := (seg.setWidth 20 <<< 4) + off.setWidth 20

/-- `Read8` (R63). -/
def Memory.read8 (m : Memory) (seg off : Word) : Byte := m.read (phys seg off).toNat

/-- `Write8` (R63). -/
def Memory.write8 (m : Memory) (seg off : Word) (v : Byte) : Memory := m.write (phys seg off).toNat v

/-- `Read16` (R64): the high byte is at the next offset of the same segment. -/
def Memory.read16 (m : Memory) (seg off : Word) : Word := wordOf (m.read8 seg off) (m.read8 seg (off + 1#16))

/-- `Write16` (R64, R79). -/
def Memory.write16 (m : Memory) (seg off : Word) (v : Word) : Memory :=
  (m.write8 seg off (lowByte v)).write8 seg (off + 1#16) (highByte v)

def State.read8 (s : State) (seg off : Word) : Byte := s.mem.read8 seg off
def State.read16 (s : State) (seg off : Word) : Word := s.mem.read16 seg off
def State.write8 (s : State) (seg off : Word) (v : Byte) : State := { s with mem := s.mem.write8 seg off v }
def State.write16 (s : State) (seg off v : Word) : State := { s with mem := s.mem.write16 seg off v }

/-! ### The stack -/

/-- R344: SP goes down by two, then the word is stored at SS:SP. No override applies (R204). -/
def State.push (s : State) (v : Word) : State :=
  (s.set16 .sp (s.get16 .sp - 2#16)).write16 (s.getSeg .ss) (s.get16 .sp - 2#16) v

/-- R345: the word at SS:SP, and the state with SP up by two. -/
def State.pop (s : State) : Word × State :=
  (s.read16 (s.getSeg .ss) (s.get16 .sp), s.set16 .sp (s.get16 .sp + 2#16))

/-! ### IP, fetch and the dispatch loop -/

/-- R33: IP wraps modulo 2^16. -/
def State.advanceIP (s : State) (n : Nat) : State := { s with ip := s.ip + BitVec.ofNat 16 n }

/-- R360: a jump relative to the IP after the instruction. -/
def State.jump (s : State) (d : Byte) : State := { s with ip := s.ip + sext16 d }

/-- The `n` bytes at CS:IP, IP wrapping between any two (R10, R33). Reading has no side effect (R68), so bytes beyond the
instruction's own are only looked at. -/
def Memory.fetch (m : Memory) (cs : Word) : Word → Nat → List Byte
  | _, 0 => []
  | ip, n + 1 => m.read8 cs ip :: Memory.fetch m cs (ip + 1#16) n

def State.fetchWindow (s : State) : List Byte := s.mem.fetch (s.getSeg .cs) s.ip maxLength

/-- The byte writes that place a program at CS:IP. -/
def Memory.place (m : Memory) (cs : Word) : Word → List Byte → Memory
  | _, [] => m
  | ip, b :: bs => Memory.place (m.write8 cs ip b) cs (ip + 1#16) bs

/-- R45, R190: no `execute` is in progress, so the loop does no work. -/
def State.idle (s : State) : Bool := s.budget == 0 || s.halted

/-- R190 step 4 for a non-prefix instruction: the prefixes are forgotten and one quantum is consumed. -/
def State.retire (s : State) : State :=
  { s with tr := { s.tr with segOverride := false, rep := .none }, budget := s.budget - 1 }

/-- R190 step 4. -/
def State.endIteration (s : State) (i : Instr) : State := if i.isPrefix then s else s.retire

/-- A segment prefix (R193). -/
def overrideSeg (r : SegReg) (s : State) : Result :=
  .next { s with tr := { s.tr with seg := s.getSeg r, segOverride := true } }

/-- A repeat prefix (R195). -/
def setRep (r : Rep) (s : State) : Result := .next { s with tr := { s.tr with rep := r } }

/-- The next state changed by `f`; a stop is kept. -/
def mapNext (f : State → State) : Result → Result
  | .next s => .next (f s)
  | .fault r => .fault r
  | .refused r => .refused r

/-! ### The handlers of undefined, halting and uncovered opcodes, and the parameters that install them -/

/-- R198: the undefined-opcode handler changes nothing. -/
def undefinedOp (s : State) : Result := .next s

/-- R200: the handler of HLT raises the halt condition. -/
def haltOp (s : State) : Result := .next { s with halted := true }

/-- R199: the verdict on an opcode byte the spec gives no meaning; IP has passed the byte. -/
def refuseUncovered (byte : Byte) (s : State) : Result :=
  match s.params.uncoveredPolicy with
  | .refuse => .refused (.uncoveredOpcode byte (s.getSeg .cs) (s.ip - 1#16))

/-- What a setting of `UNDEF_SET` or `HALT_SET` puts at an opcode byte in place of the entry of `opcode_table.json`. -/
inductive Installed where
  | undefined
  | halt
  | uncovered
  deriving DecidableEq, Repr

/-- R6, R14, R198, R200: a byte of `HALT_SET` has the handler of R200, any other byte of `UNDEF_SET` the handler of R198, and a
byte in neither set that has one of the two by default is uncovered. `none` where that is the byte's entry by default (log 6). -/
def installedAt (p : Params) (op : Byte) : Option Installed :=
  if op ∈ p.haltSet then if op ∈ Config.haltSet then none else some .halt
  else if op ∈ p.undefSet then if op ∈ Config.undefSet then none else some .undefined
  else if op ∈ Config.haltSet ∨ op ∈ Config.undefSet then some .uncovered
  else none

/-- The handler a setting installs. -/
def installedOp (h : Installed) (byte : Byte) (s : State) : Result :=
  match h with
  | .undefined => undefinedOp s
  | .halt => haltOp s
  | .uncovered => refuseUncovered byte s

/-- The opcode byte at CS:IP (R190). -/
def State.opcodeByte (s : State) : Byte := s.read8 (s.getSeg .cs) s.ip

/-- R190 steps 2 to 4 at a byte whose entry a setting replaces: one byte is fetched, the handler runs, and it is no prefix,
whatever the byte is by default. -/
def runInstalled (h : Installed) (s : State) : Result :=
  mapNext State.retire (installedOp h s.opcodeByte (s.advanceIP 1))

end Sys2Proof.Machine
end

