-- ==== Sys2Proof/Machine/Flags.lean ====
section
/-! DEFINITION. The ALU flag engine (40_alu_flag_engine.md), the FLAGS word and its accessors (R27, R28), the jump conditions
(R378) and the BCD adjust sequences (R314 to R317) on values. -/

namespace Sys2Proof.Machine

/-! ### The kernels -/

/-- The six arithmetic flags a kernel computes (R29). -/
structure ArithFlags where
  CF : Bool
  PF : Bool
  AF : Bool
  ZF : Bool
  SF : Bool
  OF : Bool
  deriving DecidableEq, Repr

/-- The number of one-bits of a byte (R131). -/
def popcount (b : Byte) : Nat :=
  b[0].toNat + b[1].toNat + b[2].toNat + b[3].toNat + b[4].toNat + b[5].toNat + b[6].toNat + b[7].toNat

/-- PF: the low 8 bits hold an even number of ones (R131, R132). -/
def parityFlag {w : Nat} (r : BitVec w) : Bool := popcount (r.setWidth 8) % 2 == 0

/-- ZF (R131). -/
def zeroFlag {w : Nat} (r : BitVec w) : Bool := r == 0#w

/-- SF (R131). -/
def signFlag {w : Nat} (r : BitVec w) : Bool := r.msb

/-- AF: bit 4 of `d ^ s ^ r`, the source not negated (R133 to R135). -/
def adjustFlag {w : Nat} (d x r : BitVec w) : Bool := (d ^^^ x ^^^ r).getLsbD 4

/-- `AddK(w, d, s, c)` (R133). -/
def addK {w : Nat} (d x : BitVec w) (c : Bool) : BitVec w × ArithFlags :=
  let full := d.toNat + x.toNat + c.toNat
  let r := BitVec.ofNat w full
  (r, { CF := decide (2 ^ w ≤ full), PF := parityFlag r, AF := adjustFlag d x r, ZF := zeroFlag r, SF := signFlag r,
        OF := ((d ^^^ r) &&& (x ^^^ r)).msb })

/-- `SubK(w, d, s, c)` (R134). -/
def subK {w : Nat} (d x : BitVec w) (c : Bool) : BitVec w × ArithFlags :=
  let full : Int := (d.toNat : Int) - x.toNat - c.toNat
  let r := BitVec.ofInt w full
  (r, { CF := decide (full < 0), PF := parityFlag r, AF := adjustFlag d x r, ZF := zeroFlag r, SF := signFlag r,
        OF := ((d ^^^ x) &&& (d ^^^ r)).msb })

/-- `LogicK(w, r)` (R138); `af` is the value `LOGIC_AF` gives. -/
def logicK {w : Nat} (r : BitVec w) (af : Bool) : BitVec w × ArithFlags :=
  (r, { CF := false, PF := parityFlag r, AF := af, ZF := zeroFlag r, SF := signFlag r, OF := false })

/-- `AluOp(k, w, d, s)` (R139): the result and the flags. -/
def aluK {w : Nat} (k : AluOp) (d x : BitVec w) (cf af : Bool) : BitVec w × ArithFlags :=
  match k with
  | .add => addK d x false
  | .or => logicK (d ||| x) af
  | .adc => addK d x cf
  | .sbb => subK d x cf
  | .and => logicK (d &&& x) af
  | .sub => subK d x false
  | .xor => logicK (d ^^^ x) af
  | .cmp => subK d x false

/-- R139, R140: CMP discards its result. -/
def writesBack : AluOp → Bool
  | .cmp => false
  | .add | .or | .adc | .sbb | .and | .sub | .xor => true

/-- R138: the operations whose AF the parameter `LOGIC_AF` decides. -/
def isLogic : AluOp → Bool
  | .or | .and | .xor => true
  | .add | .adc | .sbb | .sub | .cmp => false

/-! ### Flags in the state -/

/-- The arithmetic flags replaced, TF, IF and DF kept (R29, R31). -/
def Flags.setArith (f : Flags) (a : ArithFlags) : Flags :=
  { f with CF := a.CF, PF := a.PF, AF := a.AF, ZF := a.ZF, SF := a.SF, OF := a.OF }

/-- The arithmetic flags replaced but for CF (R141). -/
def Flags.setArithKeepCF (f : Flags) (a : ArithFlags) : Flags :=
  { f with PF := a.PF, AF := a.AF, ZF := a.ZF, SF := a.SF, OF := a.OF }

/-- The arithmetic flags of the FLAGS register. -/
def Flags.arith (f : Flags) : ArithFlags :=
  { CF := f.CF, PF := f.PF, AF := f.AF, ZF := f.ZF, SF := f.SF, OF := f.OF }

def State.setFlags (s : State) (f : Flags) : State := { s with flags := f }

/-- `n` free values are used up. -/
def State.draw (s : State) (n : Nat) : State := { s with draws := s.draws + n }

/-- The value `LOGIC_AF` gives AF (R138, D12, U1): 0 under `zero`, the next free value under `any`. -/
def State.logicAf (s : State) : Bool :=
  match s.params.logicAf with
  | .zero => false
  | .any => Config.freeFlag s.draws

/-- How many free values a logical operation uses. -/
def State.logicDraws (s : State) : Nat :=
  match s.params.logicAf with
  | .zero => 0
  | .any => 1

/-- `AluOp` run on the state: the result, and the state with the flags written (R139). -/
def State.alu {w : Nat} (s : State) (k : AluOp) (d x : BitVec w) : BitVec w × State :=
  let p := aluK k d x s.flags.CF s.logicAf
  (p.1, (s.setFlags (s.flags.setArith p.2)).draw (if isLogic k then s.logicDraws else 0))

/-- `IncK(16, d)` on the state (R141). -/
def State.inc (s : State) (d : Word) : Word × State :=
  let p := addK d 1#16 false
  (p.1, s.setFlags (s.flags.setArithKeepCF p.2))

/-- `DecK(16, d)` on the state (R141). -/
def State.dec (s : State) (d : Word) : Word × State :=
  let p := subK d 1#16 false
  (p.1, s.setFlags (s.flags.setArithKeepCF p.2))

/-! ### The FLAGS word (R27, R28, R47) -/

/-- One flag at its bit of the FLAGS word. -/
def flagAt (b : Bool) (k : Nat) : Word := (BitVec.ofBool b).setWidth 16 <<< k

/-- FLAGS as a word: the reserved bits 1, 3, 5 and 12 to 15 read 1 (R27, R28). -/
def Flags.word (f : Flags) : Word :=
  0xF02A#16 ||| flagAt f.CF 0 ||| flagAt f.PF 2 ||| flagAt f.AF 4 ||| flagAt f.ZF 6 ||| flagAt f.SF 7 |||
    flagAt f.TF 8 ||| flagAt f.IF 9 ||| flagAt f.DF 10 ||| flagAt f.OF 11

/-- Whether bit `k` of FLAGS is a defined flag (R28). -/
def isFlagBit (k : Nat) : Bool := [0, 2, 4, 6, 7, 8, 9, 10, 11].contains k

/-- The read accessor: bit `k` of FLAGS. -/
def Flags.getBit (f : Flags) (k : Nat) : Bool := f.word.getLsbD k

/-- The write accessor: a write to a reserved bit is ignored (R28, D19). -/
def Flags.setBit (f : Flags) (k : Nat) (b : Bool) : Flags :=
  match k with
  | 0 => { f with CF := b }
  | 2 => { f with PF := b }
  | 4 => { f with AF := b }
  | 6 => { f with ZF := b }
  | 7 => { f with SF := b }
  | 8 => { f with TF := b }
  | 9 => { f with IF := b }
  | 10 => { f with DF := b }
  | 11 => { f with OF := b }
  | _ => f

/-! ### Jump conditions -/

/-- R361 to R376, R378. -/
def condHolds (c : Cond) (f : Flags) : Bool :=
  match c with
  | .jo => f.OF
  | .jno => !f.OF
  | .jb => f.CF
  | .jnb => !f.CF
  | .jz => f.ZF
  | .jnz => !f.ZF
  | .jbe => f.CF || f.ZF
  | .ja => !f.CF && !f.ZF
  | .js => f.SF
  | .jns => !f.SF
  | .jpe => f.PF
  | .jpo => !f.PF
  | .jl => f.SF != f.OF
  | .jge => f.SF == f.OF
  | .jle => f.ZF || f.SF != f.OF
  | .jg => !f.ZF && f.SF == f.OF

/-! ### BCD adjust on values -/

/-- The trigger of the first step (R314 to R317). -/
def lowAdjust (al : Byte) (af : Bool) : Bool := decide (9 < (al &&& 0x0F#8).toNat) || af

/-- The trigger of the second step of DAA and DAS (R314, R315). -/
def highAdjust (al : Byte) (cf : Bool) : Bool := decide (0x9F < al.toNat) || cf

/-- The DAA and DAS sequence on AL, AF and CF; `step` adds for DAA and subtracts for DAS (R314, R315). -/
def decimalAdjust (step : Byte → Byte → Byte) (al : Byte) (af cf : Bool) : Byte × Bool × Bool :=
  let fired := lowAdjust al af
  let al1 := if fired then step al 0x06#8 else al
  let af1 := if fired then true else af
  let fired2 := highAdjust al1 cf
  let al2 := if fired2 then step al1 0x60#8 else al1
  let cf2 := if fired2 then true else cf
  (al2, af1, cf2)

/-- The AAA and AAS sequence on AL and AH, two bytes apart; `step` adds for AAA and subtracts for AAS (R316, R317). -/
def asciiAdjust (step : Byte → Byte → Byte) (al ah : Byte) (fired : Bool) : Byte × Byte :=
  ((if fired then step al 0x06#8 else al) &&& 0x0F#8, if fired then step ah 0x01#8 else ah)

/-- OF after DAA and DAS (R314, R315, R318, U2). -/
def State.decimalOf (s : State) : Bool :=
  match s.params.bcdSideFlags with
  | .asRules => s.flags.OF
  | .any => Config.freeFlag s.draws

/-- The flags after DAA and DAS (R314, R315): AF and CF from the sequence, ZF, SF and PF from the final AL. -/
def State.decimalFlags (s : State) (q : Byte × Bool × Bool) : Flags :=
  { s.flags with
    AF := q.2.1, CF := q.2.2, ZF := zeroFlag q.1, SF := signFlag q.1, PF := parityFlag q.1, OF := s.decimalOf }

/-- How many free values DAA and DAS use. -/
def State.decimalDraws (s : State) : Nat :=
  match s.params.bcdSideFlags with
  | .asRules => 0
  | .any => 1

/-- The flags after AAA and AAS (R316 to R318, U2): AF and CF as given, the other arithmetic flags left or free. -/
def State.asciiFlags (s : State) (fired : Bool) : Flags :=
  match s.params.bcdSideFlags with
  | .asRules => { s.flags with AF := fired, CF := fired }
  | .any =>
    { s.flags with
      AF := fired, CF := fired, ZF := Config.freeFlag s.draws, SF := Config.freeFlag (s.draws + 1),
      PF := Config.freeFlag (s.draws + 2), OF := Config.freeFlag (s.draws + 3) }

/-- How many free values AAA and AAS use. -/
def State.asciiDraws (s : State) : Nat :=
  match s.params.bcdSideFlags with
  | .asRules => 0
  | .any => 4

end Sys2Proof.Machine
end

