-- ==== Sys2Proof/Machine/Operands.lean ====
section
/-! DEFINITION. The addressing unit and operand access (41_addressing_unit.md), and the direct offset of R333. -/

namespace Sys2Proof.Machine

/-- The base expression of a memory mode (R94, R162), modulo 2^16. -/
def baseValue (g : Regs) : Base → Word
  | .bxsi => g.bx + g.si
  | .bxdi => g.bx + g.di
  | .bpsi => g.bp + g.si
  | .bpdi => g.bp + g.di
  | .si => g.si
  | .di => g.di
  | .bp => g.bp
  | .bx => g.bx

/-- The default segment of a base expression (R94, R164). -/
def baseSeg : Base → SegReg
  | .bpsi | .bpdi | .bp => .ss
  | .bxsi | .bxdi | .si | .di | .bx => .ds

/-- The default segment of a memory operand; the direct form takes DS (R162, R164). -/
def defaultSeg : MemAddr → SegReg
  | .base b | .disp8 b _ | .disp16 b _ => baseSeg b
  | .direct _ => .ds

/-- The effective address `off` (R162, R166): base plus displacement modulo 2^16. -/
def effectiveOffset (g : Regs) (a : MemAddr) : Word :=
  match a with
  | .base b => baseValue g b
  | .direct w => w
  | .disp8 b d => baseValue g b + sext16 d
  | .disp16 b d => baseValue g b + d

/-- The segment value of a data operand: the override's when one is pending, else the default register's (R164, R204). -/
def State.operandSeg (s : State) (dflt : SegReg) : Word :=
  if s.tr.segOverride then s.tr.seg else s.getSeg dflt

/-- `seg`, `off` and `ea` of a memory operand (R162). -/
def State.setAddress (s : State) (seg off : Word) : State :=
  { s with tr := { s.tr with seg := seg, off := off, ea := phys seg off } }

/-- `mod`, `reg` and `rm` of a ModR/M byte (R160). -/
def State.setModRM (s : State) (mod : BitVec 2) (reg rm : BitVec 3) : State :=
  { s with tr := { s.tr with mod := mod, reg := reg, rm := rm } }

/-- `ParseModRM` (R160 to R162), the bytes already fetched: the transient fields the instruction's ModR/M byte gives. -/
def State.parseModRM {R : Type} (s : State) (reg : BitVec 3) (code : R → BitVec 3) (e : Operand R) : State :=
  match e with
  | .reg r => s.setModRM 3#2 reg (code r)
  | .mem a => (s.setModRM a.modCode reg a.rmCode).setAddress (s.operandSeg (defaultSeg a)) (effectiveOffset s.regs a)

def State.parse8 (s : State) (reg : BitVec 3) (e : Operand Reg8) : State := s.parseModRM reg Reg8.code e
def State.parse16 (s : State) (reg : BitVec 3) (e : Operand Reg16) : State := s.parseModRM reg Reg16.code e

/-- `ReadE(8)` (R168), after `ParseModRM`. -/
def State.readE8 (s : State) : Operand Reg8 → Byte
  | .reg r => s.get8 r
  | .mem _ => s.read8 s.tr.seg s.tr.off

/-- `ReadE(16)` (R168). -/
def State.readE16 (s : State) : Operand Reg16 → Word
  | .reg r => s.get16 r
  | .mem _ => s.read16 s.tr.seg s.tr.off

/-- `WriteE(8, v)` (R169): the address is the parsed one, never computed again. -/
def State.writeE8 (s : State) (e : Operand Reg8) (v : Byte) : State :=
  match e with
  | .reg r => s.set8 r v
  | .mem _ => s.write8 s.tr.seg s.tr.off v

/-- `WriteE(16, v)` (R169). -/
def State.writeE16 (s : State) (e : Operand Reg16) (v : Word) : State :=
  match e with
  | .reg r => s.set16 r v
  | .mem _ => s.write16 s.tr.seg s.tr.off v

/-- The address of a direct-offset operand (R333): DS unless overridden; `mod`, `reg`, `rm` are not written. -/
def State.directOffset (s : State) (ow : Word) : State := s.setAddress (s.operandSeg .ds) ow

end Sys2Proof.Machine
end

