-- ==== Sys2Proof/Machine/Alu.lean ====
section
/-! DEFINITION. The 48 ALU instructions of opcodes 0x00 to 0x3D (43_alu_reg_rm.md). -/

namespace Sys2Proof.Machine

/-! ### The six operand forms, each over the operation number (R97, R139, R219) -/

/-- Form `Eb,Gb`: `E` is the destination. -/
def aluEbGb (k : AluOp) (g : Reg8) (e : Operand Reg8) (s : State) : Result :=
  let p := s.parse8 g.code e
  let q := p.alu k (p.readE8 e) (p.get8 g)
  .next (if writesBack k then q.2.writeE8 e q.1 else q.2)

/-- Form `Ev,Gv`. -/
def aluEvGv (k : AluOp) (g : Reg16) (e : Operand Reg16) (s : State) : Result :=
  let p := s.parse16 g.code e
  let q := p.alu k (p.readE16 e) (p.get16 g)
  .next (if writesBack k then q.2.writeE16 e q.1 else q.2)

/-- Form `Gb,Eb`: `G` is the destination. -/
def aluGbEb (k : AluOp) (g : Reg8) (e : Operand Reg8) (s : State) : Result :=
  let p := s.parse8 g.code e
  let q := p.alu k (p.get8 g) (p.readE8 e)
  .next (if writesBack k then q.2.set8 g q.1 else q.2)

/-- Form `Gv,Ev`. -/
def aluGvEv (k : AluOp) (g : Reg16) (e : Operand Reg16) (s : State) : Result :=
  let p := s.parse16 g.code e
  let q := p.alu k (p.get16 g) (p.readE16 e)
  .next (if writesBack k then q.2.set16 g q.1 else q.2)

/-- Form `AL,Ib`. -/
def aluALIb (k : AluOp) (imm : Byte) (s : State) : Result :=
  let q := s.alu k (s.get8 .al) imm
  .next (if writesBack k then q.2.set8 .al q.1 else q.2)

/-- Form `AX,Iv`. -/
def aluAXIv (k : AluOp) (imm : Word) (s : State) : Result :=
  let q := s.alu k (s.get16 .ax) imm
  .next (if writesBack k then q.2.set16 .ax q.1 else q.2)

/-! ### The 48 ALU opcodes 0x00 to 0x3D (R97, R219): eight operations in six operand forms. -/

/-- `ADD Eb,Gb` (00), R220. -/
def execAddEbGb (g : Reg8) (e : Operand Reg8) (s : State) : Result := aluEbGb .add g e s

/-- `ADD Ev,Gv` (01), R221. -/
def execAddEvGv (g : Reg16) (e : Operand Reg16) (s : State) : Result := aluEvGv .add g e s

/-- `ADD Gb,Eb` (02), R222. -/
def execAddGbEb (g : Reg8) (e : Operand Reg8) (s : State) : Result := aluGbEb .add g e s

/-- `ADD Gv,Ev` (03), R223. -/
def execAddGvEv (g : Reg16) (e : Operand Reg16) (s : State) : Result := aluGvEv .add g e s

/-- `ADD AL,Ib` (04), R224. -/
def execAddALIb (imm : Byte) (s : State) : Result := aluALIb .add imm s

/-- `ADD AX,Iv` (05), R225. -/
def execAddAXIv (imm : Word) (s : State) : Result := aluAXIv .add imm s

/-- `OR Eb,Gb` (08), R226. -/
def execOrEbGb (g : Reg8) (e : Operand Reg8) (s : State) : Result := aluEbGb .or g e s

/-- `OR Ev,Gv` (09), R227. -/
def execOrEvGv (g : Reg16) (e : Operand Reg16) (s : State) : Result := aluEvGv .or g e s

/-- `OR Gb,Eb` (0A), R228. -/
def execOrGbEb (g : Reg8) (e : Operand Reg8) (s : State) : Result := aluGbEb .or g e s

/-- `OR Gv,Ev` (0B), R229. -/
def execOrGvEv (g : Reg16) (e : Operand Reg16) (s : State) : Result := aluGvEv .or g e s

/-- `OR AL,Ib` (0C), R230. -/
def execOrALIb (imm : Byte) (s : State) : Result := aluALIb .or imm s

/-- `OR AX,Iv` (0D), R231. -/
def execOrAXIv (imm : Word) (s : State) : Result := aluAXIv .or imm s

/-- `ADC Eb,Gb` (10), R232. -/
def execAdcEbGb (g : Reg8) (e : Operand Reg8) (s : State) : Result := aluEbGb .adc g e s

/-- `ADC Ev,Gv` (11), R233. -/
def execAdcEvGv (g : Reg16) (e : Operand Reg16) (s : State) : Result := aluEvGv .adc g e s

/-- `ADC Gb,Eb` (12), R234. -/
def execAdcGbEb (g : Reg8) (e : Operand Reg8) (s : State) : Result := aluGbEb .adc g e s

/-- `ADC Gv,Ev` (13), R235. -/
def execAdcGvEv (g : Reg16) (e : Operand Reg16) (s : State) : Result := aluGvEv .adc g e s

/-- `ADC AL,Ib` (14), R236. -/
def execAdcALIb (imm : Byte) (s : State) : Result := aluALIb .adc imm s

/-- `ADC AX,Iv` (15), R237. -/
def execAdcAXIv (imm : Word) (s : State) : Result := aluAXIv .adc imm s

/-- `SBB Eb,Gb` (18), R238. -/
def execSbbEbGb (g : Reg8) (e : Operand Reg8) (s : State) : Result := aluEbGb .sbb g e s

/-- `SBB Ev,Gv` (19), R239. -/
def execSbbEvGv (g : Reg16) (e : Operand Reg16) (s : State) : Result := aluEvGv .sbb g e s

/-- `SBB Gb,Eb` (1A), R240. -/
def execSbbGbEb (g : Reg8) (e : Operand Reg8) (s : State) : Result := aluGbEb .sbb g e s

/-- `SBB Gv,Ev` (1B), R241. -/
def execSbbGvEv (g : Reg16) (e : Operand Reg16) (s : State) : Result := aluGvEv .sbb g e s

/-- `SBB AL,Ib` (1C), R242. -/
def execSbbALIb (imm : Byte) (s : State) : Result := aluALIb .sbb imm s

/-- `SBB AX,Iv` (1D), R243. -/
def execSbbAXIv (imm : Word) (s : State) : Result := aluAXIv .sbb imm s

/-- `AND Eb,Gb` (20), R244. -/
def execAndEbGb (g : Reg8) (e : Operand Reg8) (s : State) : Result := aluEbGb .and g e s

/-- `AND Ev,Gv` (21), R245. -/
def execAndEvGv (g : Reg16) (e : Operand Reg16) (s : State) : Result := aluEvGv .and g e s

/-- `AND Gb,Eb` (22), R246. -/
def execAndGbEb (g : Reg8) (e : Operand Reg8) (s : State) : Result := aluGbEb .and g e s

/-- `AND Gv,Ev` (23), R247. -/
def execAndGvEv (g : Reg16) (e : Operand Reg16) (s : State) : Result := aluGvEv .and g e s

/-- `AND AL,Ib` (24), R248. -/
def execAndALIb (imm : Byte) (s : State) : Result := aluALIb .and imm s

/-- `AND AX,Iv` (25), R249. -/
def execAndAXIv (imm : Word) (s : State) : Result := aluAXIv .and imm s

/-- `SUB Eb,Gb` (28), R250. -/
def execSubEbGb (g : Reg8) (e : Operand Reg8) (s : State) : Result := aluEbGb .sub g e s

/-- `SUB Ev,Gv` (29), R251. -/
def execSubEvGv (g : Reg16) (e : Operand Reg16) (s : State) : Result := aluEvGv .sub g e s

/-- `SUB Gb,Eb` (2A), R252. -/
def execSubGbEb (g : Reg8) (e : Operand Reg8) (s : State) : Result := aluGbEb .sub g e s

/-- `SUB Gv,Ev` (2B), R253. -/
def execSubGvEv (g : Reg16) (e : Operand Reg16) (s : State) : Result := aluGvEv .sub g e s

/-- `SUB AL,Ib` (2C), R254. -/
def execSubALIb (imm : Byte) (s : State) : Result := aluALIb .sub imm s

/-- `SUB AX,Iv` (2D), R255. -/
def execSubAXIv (imm : Word) (s : State) : Result := aluAXIv .sub imm s

/-- `XOR Eb,Gb` (30), R256. -/
def execXorEbGb (g : Reg8) (e : Operand Reg8) (s : State) : Result := aluEbGb .xor g e s

/-- `XOR Ev,Gv` (31), R257. -/
def execXorEvGv (g : Reg16) (e : Operand Reg16) (s : State) : Result := aluEvGv .xor g e s

/-- `XOR Gb,Eb` (32), R258. -/
def execXorGbEb (g : Reg8) (e : Operand Reg8) (s : State) : Result := aluGbEb .xor g e s

/-- `XOR Gv,Ev` (33), R259. -/
def execXorGvEv (g : Reg16) (e : Operand Reg16) (s : State) : Result := aluGvEv .xor g e s

/-- `XOR AL,Ib` (34), R260. -/
def execXorALIb (imm : Byte) (s : State) : Result := aluALIb .xor imm s

/-- `XOR AX,Iv` (35), R261. -/
def execXorAXIv (imm : Word) (s : State) : Result := aluAXIv .xor imm s

/-- `CMP Eb,Gb` (38), R262. -/
def execCmpEbGb (g : Reg8) (e : Operand Reg8) (s : State) : Result := aluEbGb .cmp g e s

/-- `CMP Ev,Gv` (39), R263. -/
def execCmpEvGv (g : Reg16) (e : Operand Reg16) (s : State) : Result := aluEvGv .cmp g e s

/-- `CMP Gb,Eb` (3A), R264. -/
def execCmpGbEb (g : Reg8) (e : Operand Reg8) (s : State) : Result := aluGbEb .cmp g e s

/-- `CMP Gv,Ev` (3B), R265. -/
def execCmpGvEv (g : Reg16) (e : Operand Reg16) (s : State) : Result := aluGvEv .cmp g e s

/-- `CMP AL,Ib` (3C), R266. -/
def execCmpALIb (imm : Byte) (s : State) : Result := aluALIb .cmp imm s

/-- `CMP AX,Iv` (3D), R267. -/
def execCmpAXIv (imm : Word) (s : State) : Result := aluAXIv .cmp imm s

end Sys2Proof.Machine
end

