-- ==== Sys2Proof/Machine/ControlTransfer.lean ====
section
/-! DEFINITION. Jcc and JMP rel8 (47_control_transfer.md). IP is already past the instruction when the meaning runs (R360). -/

namespace Sys2Proof.Machine

/-- R361 to R376. -/
def jumpIf (c : Cond) (d : Byte) (s : State) : Result :=
  .next (if condHolds c s.flags then s.jump d else s)

/-- R377. -/
def jumpRel (d : Byte) (s : State) : Result := .next (s.jump d)

/-! ### Jcc rel8 (R361 to R376). -/

/-- `JO rel8` (70), R361. -/
def execJoRel8 (d : Byte) (s : State) : Result := jumpIf .jo d s

/-- `JNO rel8` (71), R362. -/
def execJnoRel8 (d : Byte) (s : State) : Result := jumpIf .jno d s

/-- `JB rel8` (72), R363. -/
def execJbRel8 (d : Byte) (s : State) : Result := jumpIf .jb d s

/-- `JNB rel8` (73), R364. -/
def execJnbRel8 (d : Byte) (s : State) : Result := jumpIf .jnb d s

/-- `JZ rel8` (74), R365. -/
def execJzRel8 (d : Byte) (s : State) : Result := jumpIf .jz d s

/-- `JNZ rel8` (75), R366. -/
def execJnzRel8 (d : Byte) (s : State) : Result := jumpIf .jnz d s

/-- `JBE rel8` (76), R367. -/
def execJbeRel8 (d : Byte) (s : State) : Result := jumpIf .jbe d s

/-- `JA rel8` (77), R368. -/
def execJaRel8 (d : Byte) (s : State) : Result := jumpIf .ja d s

/-- `JS rel8` (78), R369. -/
def execJsRel8 (d : Byte) (s : State) : Result := jumpIf .js d s

/-- `JNS rel8` (79), R370. -/
def execJnsRel8 (d : Byte) (s : State) : Result := jumpIf .jns d s

/-- `JPE rel8` (7A), R371. -/
def execJpeRel8 (d : Byte) (s : State) : Result := jumpIf .jpe d s

/-- `JPO rel8` (7B), R372. -/
def execJpoRel8 (d : Byte) (s : State) : Result := jumpIf .jpo d s

/-- `JL rel8` (7C), R373. -/
def execJlRel8 (d : Byte) (s : State) : Result := jumpIf .jl d s

/-- `JGE rel8` (7D), R374. -/
def execJgeRel8 (d : Byte) (s : State) : Result := jumpIf .jge d s

/-- `JLE rel8` (7E), R375. -/
def execJleRel8 (d : Byte) (s : State) : Result := jumpIf .jle d s

/-- `JG rel8` (7F), R376. -/
def execJgRel8 (d : Byte) (s : State) : Result := jumpIf .jg d s

/-! ### JMP rel8 (R377). -/

/-- `JMP rel8` (EB), R377. -/
def execJmpRel8 (d : Byte) (s : State) : Result := jumpRel d s

end Sys2Proof.Machine
end

