-- ==== Sys2Proof/Machine/DataMovement.lean ====
section
/-! DEFINITION. MOV, XCHG, NOP, PUSH and POP (46_data_movement.md). None reads or writes a flag. -/

namespace Sys2Proof.Machine

/-- R330. -/
def movReg8 (r : Reg8) (imm : Byte) (s : State) : Result := .next (s.set8 r imm)

/-- R331. -/
def movReg16 (r : Reg16) (imm : Word) (s : State) : Result := .next (s.set16 r imm)

/-- R334. -/
def loadAL (ow : Word) (s : State) : Result :=
  let p := s.directOffset ow
  .next (p.set8 .al (p.read8 p.tr.seg p.tr.off))

/-- R335. -/
def loadAX (ow : Word) (s : State) : Result :=
  let p := s.directOffset ow
  .next (p.set16 .ax (p.read16 p.tr.seg p.tr.off))

/-- R336. -/
def storeAL (ow : Word) (s : State) : Result :=
  let p := s.directOffset ow
  .next (p.write8 p.tr.seg p.tr.off (p.get8 .al))

/-- R337. -/
def storeAX (ow : Word) (s : State) : Result :=
  let p := s.directOffset ow
  .next (p.write16 p.tr.seg p.tr.off (p.get16 .ax))

/-- R338: both reads come first. -/
def xchgOp8 (g : Reg8) (e : Operand Reg8) (s : State) : Result :=
  let p := s.parse8 g.code e
  .next ((p.writeE8 e (p.get8 g)).set8 g (p.readE8 e))

/-- R339. -/
def xchgOp16 (g : Reg16) (e : Operand Reg16) (s : State) : Result :=
  let p := s.parse16 g.code e
  .next ((p.writeE16 e (p.get16 g)).set16 g (p.readE16 e))

/-- R343. -/
def xchgAXReg (r : Reg16) (s : State) : Result :=
  .next ((s.set16 .ax (s.get16 r)).set16 r (s.get16 .ax))

/-- R344: the register is read before SP changes. -/
def pushReg (r : Reg16) (s : State) : Result := .next (s.push (s.get16 r))

/-- R345: the register is written last, so it wins when it is SP. -/
def popReg (r : Reg16) (s : State) : Result := .next (s.pop.2.set16 r s.pop.1)

/-! ### MOV r8,Ib (R330). -/

/-- `MOV AL,Ib` (B0), R330. -/
def execMovALIb (imm : Byte) (s : State) : Result := movReg8 .al imm s

/-- `MOV CL,Ib` (B1), R330. -/
def execMovCLIb (imm : Byte) (s : State) : Result := movReg8 .cl imm s

/-- `MOV DL,Ib` (B2), R330. -/
def execMovDLIb (imm : Byte) (s : State) : Result := movReg8 .dl imm s

/-- `MOV BL,Ib` (B3), R330. -/
def execMovBLIb (imm : Byte) (s : State) : Result := movReg8 .bl imm s

/-- `MOV AH,Ib` (B4), R330. -/
def execMovAHIb (imm : Byte) (s : State) : Result := movReg8 .ah imm s

/-- `MOV CH,Ib` (B5), R330. -/
def execMovCHIb (imm : Byte) (s : State) : Result := movReg8 .ch imm s

/-- `MOV DH,Ib` (B6), R330. -/
def execMovDHIb (imm : Byte) (s : State) : Result := movReg8 .dh imm s

/-- `MOV BH,Ib` (B7), R330. -/
def execMovBHIb (imm : Byte) (s : State) : Result := movReg8 .bh imm s

/-! ### MOV r16,Iv (R331). -/

/-- `MOV AX,Iv` (B8), R331. -/
def execMovAXIv (imm : Word) (s : State) : Result := movReg16 .ax imm s

/-- `MOV CX,Iv` (B9), R331. -/
def execMovCXIv (imm : Word) (s : State) : Result := movReg16 .cx imm s

/-- `MOV DX,Iv` (BA), R331. -/
def execMovDXIv (imm : Word) (s : State) : Result := movReg16 .dx imm s

/-- `MOV BX,Iv` (BB), R331. -/
def execMovBXIv (imm : Word) (s : State) : Result := movReg16 .bx imm s

/-- `MOV SP,Iv` (BC), R331. -/
def execMovSPIv (imm : Word) (s : State) : Result := movReg16 .sp imm s

/-- `MOV BP,Iv` (BD), R331. -/
def execMovBPIv (imm : Word) (s : State) : Result := movReg16 .bp imm s

/-- `MOV SI,Iv` (BE), R331. -/
def execMovSIIv (imm : Word) (s : State) : Result := movReg16 .si imm s

/-- `MOV DI,Iv` (BF), R331. -/
def execMovDIIv (imm : Word) (s : State) : Result := movReg16 .di imm s

/-! ### MOV with a direct offset (R333 to R337). -/

/-- `MOV AL,[ow]` (A0), R334. -/
def execMovALMem (ow : Word) (s : State) : Result := loadAL ow s

/-- `MOV AX,[ow]` (A1), R335. -/
def execMovAXMem (ow : Word) (s : State) : Result := loadAX ow s

/-- `MOV [ow],AL` (A2), R336. -/
def execMovMemAL (ow : Word) (s : State) : Result := storeAL ow s

/-- `MOV [ow],AX` (A3), R337. -/
def execMovMemAX (ow : Word) (s : State) : Result := storeAX ow s

/-! ### XCHG Eb,Gb and Ev,Gv (R338, R339). -/

/-- `XCHG Eb,Gb` (86), R338. -/
def execXchgEbGb (g : Reg8) (e : Operand Reg8) (s : State) : Result := xchgOp8 g e s

/-- `XCHG Ev,Gv` (87), R339. -/
def execXchgEvGv (g : Reg16) (e : Operand Reg16) (s : State) : Result := xchgOp16 g e s

/-! ### NOP (R342). -/

/-- `NOP` (90), R342. -/
def execNop (s : State) : Result := .next s

/-! ### XCHG AX,r16 (R343). -/

/-- `XCHG AX,CX` (91), R343. -/
def execXchgAXCX (s : State) : Result := xchgAXReg .cx s

/-- `XCHG AX,DX` (92), R343. -/
def execXchgAXDX (s : State) : Result := xchgAXReg .dx s

/-- `XCHG AX,BX` (93), R343. -/
def execXchgAXBX (s : State) : Result := xchgAXReg .bx s

/-- `XCHG AX,SP` (94), R343. -/
def execXchgAXSP (s : State) : Result := xchgAXReg .sp s

/-- `XCHG AX,BP` (95), R343. -/
def execXchgAXBP (s : State) : Result := xchgAXReg .bp s

/-- `XCHG AX,SI` (96), R343. -/
def execXchgAXSI (s : State) : Result := xchgAXReg .si s

/-- `XCHG AX,DI` (97), R343. -/
def execXchgAXDI (s : State) : Result := xchgAXReg .di s

/-! ### PUSH r16 (R344). -/

/-- `PUSH AX` (50), R344. -/
def execPushAX (s : State) : Result := pushReg .ax s

/-- `PUSH CX` (51), R344. -/
def execPushCX (s : State) : Result := pushReg .cx s

/-- `PUSH DX` (52), R344. -/
def execPushDX (s : State) : Result := pushReg .dx s

/-- `PUSH BX` (53), R344. -/
def execPushBX (s : State) : Result := pushReg .bx s

/-- `PUSH SP` (54), R344. -/
def execPushSP (s : State) : Result := pushReg .sp s

/-- `PUSH BP` (55), R344. -/
def execPushBP (s : State) : Result := pushReg .bp s

/-- `PUSH SI` (56), R344. -/
def execPushSI (s : State) : Result := pushReg .si s

/-- `PUSH DI` (57), R344. -/
def execPushDI (s : State) : Result := pushReg .di s

/-! ### POP r16 (R345). -/

/-- `POP AX` (58), R345. -/
def execPopAX (s : State) : Result := popReg .ax s

/-- `POP CX` (59), R345. -/
def execPopCX (s : State) : Result := popReg .cx s

/-- `POP DX` (5A), R345. -/
def execPopDX (s : State) : Result := popReg .dx s

/-- `POP BX` (5B), R345. -/
def execPopBX (s : State) : Result := popReg .bx s

/-- `POP SP` (5C), R345. -/
def execPopSP (s : State) : Result := popReg .sp s

/-- `POP BP` (5D), R345. -/
def execPopBP (s : State) : Result := popReg .bp s

/-- `POP SI` (5E), R345. -/
def execPopSI (s : State) : Result := popReg .si s

/-- `POP DI` (5F), R345. -/
def execPopDI (s : State) : Result := popReg .di s

end Sys2Proof.Machine
end

