-- ==== Sys2Proof/Machine/DispatchCore.lean ====
section
/-! DEFINITION. The prefixes, HLT and the undefined-opcode no-op (42_dispatch_core.md). Each is the handler of a table
entry; which byte has which entry under a setting of `UNDEF_SET` or `HALT_SET` is `installedAt`, consulted by `step`. -/

namespace Sys2Proof.Machine

/-! ### The segment-override and repeat prefixes (R193, R195). -/

/-- `ES: prefix` (26), R193. -/
def execPrefixES (s : State) : Result := overrideSeg .es s

/-- `CS: prefix` (2E), R193. -/
def execPrefixCS (s : State) : Result := overrideSeg .cs s

/-- `SS: prefix` (36), R193. -/
def execPrefixSS (s : State) : Result := overrideSeg .ss s

/-- `DS: prefix` (3E), R193. -/
def execPrefixDS (s : State) : Result := overrideSeg .ds s

/-- `REPNE` (F2), R195. -/
def execRepne (s : State) : Result := setRep .repne s

/-- `REP/REPE` (F3), R195. -/
def execRep (s : State) : Result := setRep .repe s

/-! ### HLT (R200). -/

/-- `HLT` (F4), R200. -/
def execHlt (s : State) : Result := haltOp s

/-! ### The 31 undefined opcode bytes, one-byte no-ops (R103, R198). -/

/-- `undefined` (0F), R198. -/
def execUndef0F (s : State) : Result := undefinedOp s

/-- `undefined` (60), R198. -/
def execUndef60 (s : State) : Result := undefinedOp s

/-- `undefined` (61), R198. -/
def execUndef61 (s : State) : Result := undefinedOp s

/-- `undefined` (62), R198. -/
def execUndef62 (s : State) : Result := undefinedOp s

/-- `undefined` (63), R198. -/
def execUndef63 (s : State) : Result := undefinedOp s

/-- `undefined` (64), R198. -/
def execUndef64 (s : State) : Result := undefinedOp s

/-- `undefined` (65), R198. -/
def execUndef65 (s : State) : Result := undefinedOp s

/-- `undefined` (66), R198. -/
def execUndef66 (s : State) : Result := undefinedOp s

/-- `undefined` (67), R198. -/
def execUndef67 (s : State) : Result := undefinedOp s

/-- `undefined` (68), R198. -/
def execUndef68 (s : State) : Result := undefinedOp s

/-- `undefined` (69), R198. -/
def execUndef69 (s : State) : Result := undefinedOp s

/-- `undefined` (6A), R198. -/
def execUndef6A (s : State) : Result := undefinedOp s

/-- `undefined` (6B), R198. -/
def execUndef6B (s : State) : Result := undefinedOp s

/-- `undefined` (6C), R198. -/
def execUndef6C (s : State) : Result := undefinedOp s

/-- `undefined` (6D), R198. -/
def execUndef6D (s : State) : Result := undefinedOp s

/-- `undefined` (6E), R198. -/
def execUndef6E (s : State) : Result := undefinedOp s

/-- `undefined` (6F), R198. -/
def execUndef6F (s : State) : Result := undefinedOp s

/-- `undefined` (C0), R198. -/
def execUndefC0 (s : State) : Result := undefinedOp s

/-- `undefined` (C1), R198. -/
def execUndefC1 (s : State) : Result := undefinedOp s

/-- `undefined` (C8), R198. -/
def execUndefC8 (s : State) : Result := undefinedOp s

/-- `undefined` (C9), R198. -/
def execUndefC9 (s : State) : Result := undefinedOp s

/-- `undefined` (D6), R198. -/
def execUndefD6 (s : State) : Result := undefinedOp s

/-- `(undefined: ESC, co-processor escape)` (D8), R198. -/
def execEscD8 (s : State) : Result := undefinedOp s

/-- `(undefined: ESC, co-processor escape)` (D9), R198. -/
def execEscD9 (s : State) : Result := undefinedOp s

/-- `(undefined: ESC, co-processor escape)` (DA), R198. -/
def execEscDA (s : State) : Result := undefinedOp s

/-- `(undefined: ESC, co-processor escape)` (DB), R198. -/
def execEscDB (s : State) : Result := undefinedOp s

/-- `(undefined: ESC, co-processor escape)` (DC), R198. -/
def execEscDC (s : State) : Result := undefinedOp s

/-- `(undefined: ESC, co-processor escape)` (DD), R198. -/
def execEscDD (s : State) : Result := undefinedOp s

/-- `(undefined: ESC, co-processor escape)` (DE), R198. -/
def execEscDE (s : State) : Result := undefinedOp s

/-- `(undefined: ESC, co-processor escape)` (DF), R198. -/
def execEscDF (s : State) : Result := undefinedOp s

/-- `undefined` (F1), R198. -/
def execUndefF1 (s : State) : Result := undefinedOp s

end Sys2Proof.Machine
end

