-- ==== Sys2Proof/Machine/Group1.lean ====
section
/-! DEFINITION. Group 1, opcodes 0x80 to 0x83, and TEST (44_group1_test.md). -/

namespace Sys2Proof.Machine

/-- The `reg` field that selects an operation (R99). -/
def groupReg : AluOp → BitVec 3
  | .add => 0#3 | .or => 1#3 | .adc => 2#3 | .sbb => 3#3 | .and => 4#3 | .sub => 5#3 | .xor => 6#3 | .cmp => 7#3

/-- R269 at width 8 (0x80, 0x82). -/
def group1EbIb (k : AluOp) (e : Operand Reg8) (imm : Byte) (s : State) : Result :=
  let p := s.parse8 (groupReg k) e
  let q := p.alu k (p.readE8 e) imm
  .next (if writesBack k then q.2.writeE8 e q.1 else q.2)

/-- R269 at width 16 (0x81). -/
def group1EvIv (k : AluOp) (e : Operand Reg16) (imm : Word) (s : State) : Result :=
  let p := s.parse16 (groupReg k) e
  let q := p.alu k (p.readE16 e) imm
  .next (if writesBack k then q.2.writeE16 e q.1 else q.2)

/-- R269 at width 16 with the sign-extended byte (0x83). -/
def group1EvIbSext (k : AluOp) (e : Operand Reg16) (imm : Byte) (s : State) : Result :=
  group1EvIv k e (sext16 imm) s

/-- TEST at width 8 (R302): AND with the result discarded (R140). -/
def testOp8 (g : Reg8) (e : Operand Reg8) (s : State) : Result :=
  let p := s.parse8 g.code e
  .next (p.alu .and (p.readE8 e) (p.get8 g)).2

/-- TEST at width 16 (R303). -/
def testOp16 (g : Reg16) (e : Operand Reg16) (s : State) : Result :=
  let p := s.parse16 g.code e
  .next (p.alu .and (p.readE16 e) (p.get16 g)).2

/-! ### Group 1, opcodes 0x80 to 0x83 (R99, R269): the ModR/M `reg` field is part of the constructor. -/

/-- `ADD Eb,Ib` (80 /0), R270. -/
def execAddEbIb80 (e : Operand Reg8) (imm : Byte) (s : State) : Result := group1EbIb .add e imm s

/-- `OR Eb,Ib` (80 /1), R271. -/
def execOrEbIb80 (e : Operand Reg8) (imm : Byte) (s : State) : Result := group1EbIb .or e imm s

/-- `ADC Eb,Ib` (80 /2), R272. -/
def execAdcEbIb80 (e : Operand Reg8) (imm : Byte) (s : State) : Result := group1EbIb .adc e imm s

/-- `SBB Eb,Ib` (80 /3), R273. -/
def execSbbEbIb80 (e : Operand Reg8) (imm : Byte) (s : State) : Result := group1EbIb .sbb e imm s

/-- `AND Eb,Ib` (80 /4), R274. -/
def execAndEbIb80 (e : Operand Reg8) (imm : Byte) (s : State) : Result := group1EbIb .and e imm s

/-- `SUB Eb,Ib` (80 /5), R275. -/
def execSubEbIb80 (e : Operand Reg8) (imm : Byte) (s : State) : Result := group1EbIb .sub e imm s

/-- `XOR Eb,Ib` (80 /6), R276. -/
def execXorEbIb80 (e : Operand Reg8) (imm : Byte) (s : State) : Result := group1EbIb .xor e imm s

/-- `CMP Eb,Ib` (80 /7), R277. -/
def execCmpEbIb80 (e : Operand Reg8) (imm : Byte) (s : State) : Result := group1EbIb .cmp e imm s

/-- `ADD Ev,Iv` (81 /0), R278. -/
def execAddEvIv81 (e : Operand Reg16) (imm : Word) (s : State) : Result := group1EvIv .add e imm s

/-- `OR Ev,Iv` (81 /1), R279. -/
def execOrEvIv81 (e : Operand Reg16) (imm : Word) (s : State) : Result := group1EvIv .or e imm s

/-- `ADC Ev,Iv` (81 /2), R280. -/
def execAdcEvIv81 (e : Operand Reg16) (imm : Word) (s : State) : Result := group1EvIv .adc e imm s

/-- `SBB Ev,Iv` (81 /3), R281. -/
def execSbbEvIv81 (e : Operand Reg16) (imm : Word) (s : State) : Result := group1EvIv .sbb e imm s

/-- `AND Ev,Iv` (81 /4), R282. -/
def execAndEvIv81 (e : Operand Reg16) (imm : Word) (s : State) : Result := group1EvIv .and e imm s

/-- `SUB Ev,Iv` (81 /5), R283. -/
def execSubEvIv81 (e : Operand Reg16) (imm : Word) (s : State) : Result := group1EvIv .sub e imm s

/-- `XOR Ev,Iv` (81 /6), R284. -/
def execXorEvIv81 (e : Operand Reg16) (imm : Word) (s : State) : Result := group1EvIv .xor e imm s

/-- `CMP Ev,Iv` (81 /7), R285. -/
def execCmpEvIv81 (e : Operand Reg16) (imm : Word) (s : State) : Result := group1EvIv .cmp e imm s

/-- `ADD Eb,Ib` (82 /0), R286. -/
def execAddEbIb82 (e : Operand Reg8) (imm : Byte) (s : State) : Result := group1EbIb .add e imm s

/-- `OR Eb,Ib` (82 /1), R287. -/
def execOrEbIb82 (e : Operand Reg8) (imm : Byte) (s : State) : Result := group1EbIb .or e imm s

/-- `ADC Eb,Ib` (82 /2), R288. -/
def execAdcEbIb82 (e : Operand Reg8) (imm : Byte) (s : State) : Result := group1EbIb .adc e imm s

/-- `SBB Eb,Ib` (82 /3), R289. -/
def execSbbEbIb82 (e : Operand Reg8) (imm : Byte) (s : State) : Result := group1EbIb .sbb e imm s

/-- `AND Eb,Ib` (82 /4), R290. -/
def execAndEbIb82 (e : Operand Reg8) (imm : Byte) (s : State) : Result := group1EbIb .and e imm s

/-- `SUB Eb,Ib` (82 /5), R291. -/
def execSubEbIb82 (e : Operand Reg8) (imm : Byte) (s : State) : Result := group1EbIb .sub e imm s

/-- `XOR Eb,Ib` (82 /6), R292. -/
def execXorEbIb82 (e : Operand Reg8) (imm : Byte) (s : State) : Result := group1EbIb .xor e imm s

/-- `CMP Eb,Ib` (82 /7), R293. -/
def execCmpEbIb82 (e : Operand Reg8) (imm : Byte) (s : State) : Result := group1EbIb .cmp e imm s

/-- `ADD Ev,Ib` (83 /0), R294. -/
def execAddEvIb83 (e : Operand Reg16) (imm : Byte) (s : State) : Result := group1EvIbSext .add e imm s

/-- `OR Ev,Ib` (83 /1), R295. -/
def execOrEvIb83 (e : Operand Reg16) (imm : Byte) (s : State) : Result := group1EvIbSext .or e imm s

/-- `ADC Ev,Ib` (83 /2), R296. -/
def execAdcEvIb83 (e : Operand Reg16) (imm : Byte) (s : State) : Result := group1EvIbSext .adc e imm s

/-- `SBB Ev,Ib` (83 /3), R297. -/
def execSbbEvIb83 (e : Operand Reg16) (imm : Byte) (s : State) : Result := group1EvIbSext .sbb e imm s

/-- `AND Ev,Ib` (83 /4), R298. -/
def execAndEvIb83 (e : Operand Reg16) (imm : Byte) (s : State) : Result := group1EvIbSext .and e imm s

/-- `SUB Ev,Ib` (83 /5), R299. -/
def execSubEvIb83 (e : Operand Reg16) (imm : Byte) (s : State) : Result := group1EvIbSext .sub e imm s

/-- `XOR Ev,Ib` (83 /6), R300. -/
def execXorEvIb83 (e : Operand Reg16) (imm : Byte) (s : State) : Result := group1EvIbSext .xor e imm s

/-- `CMP Ev,Ib` (83 /7), R301. -/
def execCmpEvIb83 (e : Operand Reg16) (imm : Byte) (s : State) : Result := group1EvIbSext .cmp e imm s

/-! ### TEST (R302, R303). -/

/-- `TEST Eb,Gb` (84), R302. -/
def execTestEbGb (g : Reg8) (e : Operand Reg8) (s : State) : Result := testOp8 g e s

/-- `TEST Ev,Gv` (85), R303. -/
def execTestEvGv (g : Reg16) (e : Operand Reg16) (s : State) : Result := testOp16 g e s

end Sys2Proof.Machine
end

