-- ==== Sys2Proof/Machine/IncDecBcd.lean ====
section
/-! DEFINITION. INC, DEC and the BCD adjust instructions (45_incdec_bcd.md). -/

namespace Sys2Proof.Machine

/-- R310. -/
def incReg (r : Reg16) (s : State) : Result :=
  let q := s.inc (s.get16 r)
  .next (q.2.set16 r q.1)

/-- R311. -/
def decReg (r : Reg16) (s : State) : Result :=
  let q := s.dec (s.get16 r)
  .next (q.2.set16 r q.1)

/-- The common shape of DAA and DAS: AL, AF, CF from the sequence, ZF, SF, PF from the final AL (R314, R315). -/
def decimalOp (step : Byte → Byte → Byte) (s : State) : Result :=
  let q := decimalAdjust step (s.get8 .al) s.flags.AF s.flags.CF
  .next (((s.setFlags (s.decimalFlags q)).draw s.decimalDraws).set8 .al q.1)

/-- R314. -/
def daaOp (s : State) : Result := decimalOp (fun a b => a + b) s

/-- R315. -/
def dasOp (s : State) : Result := decimalOp (fun a b => a - b) s

/-- The common shape of AAA and AAS: AL and AH are adjusted as two bytes, AL keeps its low nibble (R316, R317). -/
def asciiOp (step : Byte → Byte → Byte) (s : State) : Result :=
  let fired := lowAdjust (s.get8 .al) s.flags.AF
  let q := asciiAdjust step (s.get8 .al) (s.get8 .ah) fired
  .next ((((s.setFlags (s.asciiFlags fired)).draw s.asciiDraws).set8 .ah q.2).set8 .al q.1)

/-- R316. -/
def aaaOp (s : State) : Result := asciiOp (fun a b => a + b) s

/-- R317. -/
def aasOp (s : State) : Result := asciiOp (fun a b => a - b) s

/-! ### INC r16 (R310). -/

/-- `INC AX` (40), R310. -/
def execIncAX (s : State) : Result := incReg .ax s

/-- `INC CX` (41), R310. -/
def execIncCX (s : State) : Result := incReg .cx s

/-- `INC DX` (42), R310. -/
def execIncDX (s : State) : Result := incReg .dx s

/-- `INC BX` (43), R310. -/
def execIncBX (s : State) : Result := incReg .bx s

/-- `INC SP` (44), R310. -/
def execIncSP (s : State) : Result := incReg .sp s

/-- `INC BP` (45), R310. -/
def execIncBP (s : State) : Result := incReg .bp s

/-- `INC SI` (46), R310. -/
def execIncSI (s : State) : Result := incReg .si s

/-- `INC DI` (47), R310. -/
def execIncDI (s : State) : Result := incReg .di s

/-! ### DEC r16 (R311). -/

/-- `DEC AX` (48), R311. -/
def execDecAX (s : State) : Result := decReg .ax s

/-- `DEC CX` (49), R311. -/
def execDecCX (s : State) : Result := decReg .cx s

/-- `DEC DX` (4A), R311. -/
def execDecDX (s : State) : Result := decReg .dx s

/-- `DEC BX` (4B), R311. -/
def execDecBX (s : State) : Result := decReg .bx s

/-- `DEC SP` (4C), R311. -/
def execDecSP (s : State) : Result := decReg .sp s

/-- `DEC BP` (4D), R311. -/
def execDecBP (s : State) : Result := decReg .bp s

/-- `DEC SI` (4E), R311. -/
def execDecSI (s : State) : Result := decReg .si s

/-- `DEC DI` (4F), R311. -/
def execDecDI (s : State) : Result := decReg .di s

/-! ### BCD adjust (R313 to R317). -/

/-- `DAA` (27), R314. -/
def execDaa (s : State) : Result := daaOp s

/-- `DAS` (2F), R315. -/
def execDas (s : State) : Result := dasOp s

/-- `AAA` (37), R316. -/
def execAaa (s : State) : Result := aaaOp s

/-- `AAS` (3F), R317. -/
def execAas (s : State) : Result := aasOp s

end Sys2Proof.Machine
end

