-- ==== Sys2Proof/Machine/Uncovered.lean ====
section
/-! DEFINITION. The 81 uncovered opcodes: 8086 instructions to which the spec gives no effect, and whose verdict is a refusal
that names the byte and its CS:IP (R104, R199, D2). Such a byte runs when a setting puts it into `UNDEF_SET` or `HALT_SET`
(`installedAt`, consulted by `step`). -/

namespace Sys2Proof.Machine

/-! ### The 81 uncovered opcode bytes, which have no operands here because the spec gives them no length (R104, R199). -/

/-- `PUSH ES` (06), R199. -/
def execPushES (s : State) : Result := refuseUncovered 0x06#8 s

/-- `POP ES` (07), R199. -/
def execPopES (s : State) : Result := refuseUncovered 0x07#8 s

/-- `PUSH CS` (0E), R199. -/
def execPushCS (s : State) : Result := refuseUncovered 0x0E#8 s

/-- `PUSH SS` (16), R199. -/
def execPushSS (s : State) : Result := refuseUncovered 0x16#8 s

/-- `POP SS` (17), R199. -/
def execPopSS (s : State) : Result := refuseUncovered 0x17#8 s

/-- `PUSH DS` (1E), R199. -/
def execPushDS (s : State) : Result := refuseUncovered 0x1E#8 s

/-- `POP DS` (1F), R199. -/
def execPopDS (s : State) : Result := refuseUncovered 0x1F#8 s

/-- `MOV Eb,Gb` (88), R199. -/
def execMovEbGb (s : State) : Result := refuseUncovered 0x88#8 s

/-- `MOV Ev,Gv` (89), R199. -/
def execMovEvGv (s : State) : Result := refuseUncovered 0x89#8 s

/-- `MOV Gb,Eb` (8A), R199. -/
def execMovGbEb (s : State) : Result := refuseUncovered 0x8A#8 s

/-- `MOV Gv,Ev` (8B), R199. -/
def execMovGvEv (s : State) : Result := refuseUncovered 0x8B#8 s

/-- `MOV Ew,Sw` (8C), R199. -/
def execMovEwSw (s : State) : Result := refuseUncovered 0x8C#8 s

/-- `LEA` (8D), R199. -/
def execLea (s : State) : Result := refuseUncovered 0x8D#8 s

/-- `MOV Sw,Ew` (8E), R199. -/
def execMovSwEw (s : State) : Result := refuseUncovered 0x8E#8 s

/-- `POP Ev` (8F), R199. -/
def execPopEv (s : State) : Result := refuseUncovered 0x8F#8 s

/-- `CBW` (98), R199. -/
def execCbw (s : State) : Result := refuseUncovered 0x98#8 s

/-- `CWD` (99), R199. -/
def execCwd (s : State) : Result := refuseUncovered 0x99#8 s

/-- `CALL far` (9A), R199. -/
def execCallFar (s : State) : Result := refuseUncovered 0x9A#8 s

/-- `WAIT` (9B), R199. -/
def execWait (s : State) : Result := refuseUncovered 0x9B#8 s

/-- `PUSHF` (9C), R199. -/
def execPushf (s : State) : Result := refuseUncovered 0x9C#8 s

/-- `POPF` (9D), R199. -/
def execPopf (s : State) : Result := refuseUncovered 0x9D#8 s

/-- `SAHF` (9E), R199. -/
def execSahf (s : State) : Result := refuseUncovered 0x9E#8 s

/-- `LAHF` (9F), R199. -/
def execLahf (s : State) : Result := refuseUncovered 0x9F#8 s

/-- `MOVSB` (A4), R199. -/
def execMovsb (s : State) : Result := refuseUncovered 0xA4#8 s

/-- `MOVSW` (A5), R199. -/
def execMovsw (s : State) : Result := refuseUncovered 0xA5#8 s

/-- `CMPSB` (A6), R199. -/
def execCmpsb (s : State) : Result := refuseUncovered 0xA6#8 s

/-- `CMPSW` (A7), R199. -/
def execCmpsw (s : State) : Result := refuseUncovered 0xA7#8 s

/-- `TEST AL,Ib` (A8), R199. -/
def execTestALIb (s : State) : Result := refuseUncovered 0xA8#8 s

/-- `TEST AX,Iv` (A9), R199. -/
def execTestAXIv (s : State) : Result := refuseUncovered 0xA9#8 s

/-- `STOSB` (AA), R199. -/
def execStosb (s : State) : Result := refuseUncovered 0xAA#8 s

/-- `STOSW` (AB), R199. -/
def execStosw (s : State) : Result := refuseUncovered 0xAB#8 s

/-- `LODSB` (AC), R199. -/
def execLodsb (s : State) : Result := refuseUncovered 0xAC#8 s

/-- `LODSW` (AD), R199. -/
def execLodsw (s : State) : Result := refuseUncovered 0xAD#8 s

/-- `SCASB` (AE), R199. -/
def execScasb (s : State) : Result := refuseUncovered 0xAE#8 s

/-- `SCASW` (AF), R199. -/
def execScasw (s : State) : Result := refuseUncovered 0xAF#8 s

/-- `RET Iw` (C2), R199. -/
def execRetIw (s : State) : Result := refuseUncovered 0xC2#8 s

/-- `RET` (C3), R199. -/
def execRet (s : State) : Result := refuseUncovered 0xC3#8 s

/-- `LES` (C4), R199. -/
def execLes (s : State) : Result := refuseUncovered 0xC4#8 s

/-- `LDS` (C5), R199. -/
def execLds (s : State) : Result := refuseUncovered 0xC5#8 s

/-- `MOV Eb,Ib` (C6), R199. -/
def execMovEbIb (s : State) : Result := refuseUncovered 0xC6#8 s

/-- `MOV Ev,Iv` (C7), R199. -/
def execMovEvIv (s : State) : Result := refuseUncovered 0xC7#8 s

/-- `RETF Iw` (CA), R199. -/
def execRetfIw (s : State) : Result := refuseUncovered 0xCA#8 s

/-- `RETF` (CB), R199. -/
def execRetf (s : State) : Result := refuseUncovered 0xCB#8 s

/-- `INT3` (CC), R199. -/
def execInt3 (s : State) : Result := refuseUncovered 0xCC#8 s

/-- `INT Ib` (CD), R199. -/
def execIntIb (s : State) : Result := refuseUncovered 0xCD#8 s

/-- `INTO` (CE), R199. -/
def execInto (s : State) : Result := refuseUncovered 0xCE#8 s

/-- `IRET` (CF), R199. -/
def execIret (s : State) : Result := refuseUncovered 0xCF#8 s

/-- `shift grp Eb,1` (D0), R199. -/
def execShiftEb1 (s : State) : Result := refuseUncovered 0xD0#8 s

/-- `shift grp Ev,1` (D1), R199. -/
def execShiftEv1 (s : State) : Result := refuseUncovered 0xD1#8 s

/-- `shift grp Eb,CL` (D2), R199. -/
def execShiftEbCL (s : State) : Result := refuseUncovered 0xD2#8 s

/-- `shift grp Ev,CL` (D3), R199. -/
def execShiftEvCL (s : State) : Result := refuseUncovered 0xD3#8 s

/-- `AAM` (D4), R199. -/
def execAam (s : State) : Result := refuseUncovered 0xD4#8 s

/-- `AAD` (D5), R199. -/
def execAad (s : State) : Result := refuseUncovered 0xD5#8 s

/-- `XLAT` (D7), R199. -/
def execXlat (s : State) : Result := refuseUncovered 0xD7#8 s

/-- `LOOPNZ` (E0), R199. -/
def execLoopnz (s : State) : Result := refuseUncovered 0xE0#8 s

/-- `LOOPZ` (E1), R199. -/
def execLoopz (s : State) : Result := refuseUncovered 0xE1#8 s

/-- `LOOP` (E2), R199. -/
def execLoop (s : State) : Result := refuseUncovered 0xE2#8 s

/-- `JCXZ` (E3), R199. -/
def execJcxz (s : State) : Result := refuseUncovered 0xE3#8 s

/-- `IN AL,Ib` (E4), R199. -/
def execInALIb (s : State) : Result := refuseUncovered 0xE4#8 s

/-- `IN AX,Ib` (E5), R199. -/
def execInAXIb (s : State) : Result := refuseUncovered 0xE5#8 s

/-- `OUT Ib,AL` (E6), R199. -/
def execOutIbAL (s : State) : Result := refuseUncovered 0xE6#8 s

/-- `OUT Ib,AX` (E7), R199. -/
def execOutIbAX (s : State) : Result := refuseUncovered 0xE7#8 s

/-- `CALL rel16` (E8), R199. -/
def execCallRel16 (s : State) : Result := refuseUncovered 0xE8#8 s

/-- `JMP rel16` (E9), R199. -/
def execJmpRel16 (s : State) : Result := refuseUncovered 0xE9#8 s

/-- `JMP far` (EA), R199. -/
def execJmpFar (s : State) : Result := refuseUncovered 0xEA#8 s

/-- `IN AL,DX` (EC), R199. -/
def execInALDX (s : State) : Result := refuseUncovered 0xEC#8 s

/-- `IN AX,DX` (ED), R199. -/
def execInAXDX (s : State) : Result := refuseUncovered 0xED#8 s

/-- `OUT DX,AL` (EE), R199. -/
def execOutDXAL (s : State) : Result := refuseUncovered 0xEE#8 s

/-- `OUT DX,AX` (EF), R199. -/
def execOutDXAX (s : State) : Result := refuseUncovered 0xEF#8 s

/-- `LOCK` (F0), R199. -/
def execLock (s : State) : Result := refuseUncovered 0xF0#8 s

/-- `CMC` (F5), R199. -/
def execCmc (s : State) : Result := refuseUncovered 0xF5#8 s

/-- `grp3 Eb` (F6), R199. -/
def execGrp3Eb (s : State) : Result := refuseUncovered 0xF6#8 s

/-- `grp3 Ev` (F7), R199. -/
def execGrp3Ev (s : State) : Result := refuseUncovered 0xF7#8 s

/-- `CLC` (F8), R199. -/
def execClc (s : State) : Result := refuseUncovered 0xF8#8 s

/-- `STC` (F9), R199. -/
def execStc (s : State) : Result := refuseUncovered 0xF9#8 s

/-- `CLI` (FA), R199. -/
def execCli (s : State) : Result := refuseUncovered 0xFA#8 s

/-- `STI` (FB), R199. -/
def execSti (s : State) : Result := refuseUncovered 0xFB#8 s

/-- `CLD` (FC), R199. -/
def execCld (s : State) : Result := refuseUncovered 0xFC#8 s

/-- `STD` (FD), R199. -/
def execStd (s : State) : Result := refuseUncovered 0xFD#8 s

/-- `grp4 Eb` (FE), R199. -/
def execGrp4Eb (s : State) : Result := refuseUncovered 0xFE#8 s

/-- `grp5 Ev` (FF), R199. -/
def execGrp5Ev (s : State) : Result := refuseUncovered 0xFF#8 s

end Sys2Proof.Machine
end

