-- ==== Sys2Proof/Machine/Dispatch.lean ====
section
/-! DEFINITION. The 256-entry handler table as one match (R190 step 3, R191): each constructor of Instr and its meaning. -/

namespace Sys2Proof.Machine

def exec (i : Instr) (s : State) : Host.Outcome State Fault Refusal :=
  match i with
  -- The 48 ALU opcodes 0x00 to 0x3D (R97, R219): eight operations in six operand forms.
  | .addEbGb g e => Sys2Proof.Machine.execAddEbGb g e s
  | .addEvGv g e => Sys2Proof.Machine.execAddEvGv g e s
  | .addGbEb g e => Sys2Proof.Machine.execAddGbEb g e s
  | .addGvEv g e => Sys2Proof.Machine.execAddGvEv g e s
  | .addALIb imm => Sys2Proof.Machine.execAddALIb imm s
  | .addAXIv imm => Sys2Proof.Machine.execAddAXIv imm s
  | .orEbGb g e => Sys2Proof.Machine.execOrEbGb g e s
  | .orEvGv g e => Sys2Proof.Machine.execOrEvGv g e s
  | .orGbEb g e => Sys2Proof.Machine.execOrGbEb g e s
  | .orGvEv g e => Sys2Proof.Machine.execOrGvEv g e s
  | .orALIb imm => Sys2Proof.Machine.execOrALIb imm s
  | .orAXIv imm => Sys2Proof.Machine.execOrAXIv imm s
  | .adcEbGb g e => Sys2Proof.Machine.execAdcEbGb g e s
  | .adcEvGv g e => Sys2Proof.Machine.execAdcEvGv g e s
  | .adcGbEb g e => Sys2Proof.Machine.execAdcGbEb g e s
  | .adcGvEv g e => Sys2Proof.Machine.execAdcGvEv g e s
  | .adcALIb imm => Sys2Proof.Machine.execAdcALIb imm s
  | .adcAXIv imm => Sys2Proof.Machine.execAdcAXIv imm s
  | .sbbEbGb g e => Sys2Proof.Machine.execSbbEbGb g e s
  | .sbbEvGv g e => Sys2Proof.Machine.execSbbEvGv g e s
  | .sbbGbEb g e => Sys2Proof.Machine.execSbbGbEb g e s
  | .sbbGvEv g e => Sys2Proof.Machine.execSbbGvEv g e s
  | .sbbALIb imm => Sys2Proof.Machine.execSbbALIb imm s
  | .sbbAXIv imm => Sys2Proof.Machine.execSbbAXIv imm s
  | .andEbGb g e => Sys2Proof.Machine.execAndEbGb g e s
  | .andEvGv g e => Sys2Proof.Machine.execAndEvGv g e s
  | .andGbEb g e => Sys2Proof.Machine.execAndGbEb g e s
  | .andGvEv g e => Sys2Proof.Machine.execAndGvEv g e s
  | .andALIb imm => Sys2Proof.Machine.execAndALIb imm s
  | .andAXIv imm => Sys2Proof.Machine.execAndAXIv imm s
  | .subEbGb g e => Sys2Proof.Machine.execSubEbGb g e s
  | .subEvGv g e => Sys2Proof.Machine.execSubEvGv g e s
  | .subGbEb g e => Sys2Proof.Machine.execSubGbEb g e s
  | .subGvEv g e => Sys2Proof.Machine.execSubGvEv g e s
  | .subALIb imm => Sys2Proof.Machine.execSubALIb imm s
  | .subAXIv imm => Sys2Proof.Machine.execSubAXIv imm s
  | .xorEbGb g e => Sys2Proof.Machine.execXorEbGb g e s
  | .xorEvGv g e => Sys2Proof.Machine.execXorEvGv g e s
  | .xorGbEb g e => Sys2Proof.Machine.execXorGbEb g e s
  | .xorGvEv g e => Sys2Proof.Machine.execXorGvEv g e s
  | .xorALIb imm => Sys2Proof.Machine.execXorALIb imm s
  | .xorAXIv imm => Sys2Proof.Machine.execXorAXIv imm s
  | .cmpEbGb g e => Sys2Proof.Machine.execCmpEbGb g e s
  | .cmpEvGv g e => Sys2Proof.Machine.execCmpEvGv g e s
  | .cmpGbEb g e => Sys2Proof.Machine.execCmpGbEb g e s
  | .cmpGvEv g e => Sys2Proof.Machine.execCmpGvEv g e s
  | .cmpALIb imm => Sys2Proof.Machine.execCmpALIb imm s
  | .cmpAXIv imm => Sys2Proof.Machine.execCmpAXIv imm s
  -- Group 1, opcodes 0x80 to 0x83 (R99, R269): the ModR/M `reg` field is part of the constructor.
  | .addEbIb80 e imm => Sys2Proof.Machine.execAddEbIb80 e imm s
  | .orEbIb80 e imm => Sys2Proof.Machine.execOrEbIb80 e imm s
  | .adcEbIb80 e imm => Sys2Proof.Machine.execAdcEbIb80 e imm s
  | .sbbEbIb80 e imm => Sys2Proof.Machine.execSbbEbIb80 e imm s
  | .andEbIb80 e imm => Sys2Proof.Machine.execAndEbIb80 e imm s
  | .subEbIb80 e imm => Sys2Proof.Machine.execSubEbIb80 e imm s
  | .xorEbIb80 e imm => Sys2Proof.Machine.execXorEbIb80 e imm s
  | .cmpEbIb80 e imm => Sys2Proof.Machine.execCmpEbIb80 e imm s
  | .addEvIv81 e imm => Sys2Proof.Machine.execAddEvIv81 e imm s
  | .orEvIv81 e imm => Sys2Proof.Machine.execOrEvIv81 e imm s
  | .adcEvIv81 e imm => Sys2Proof.Machine.execAdcEvIv81 e imm s
  | .sbbEvIv81 e imm => Sys2Proof.Machine.execSbbEvIv81 e imm s
  | .andEvIv81 e imm => Sys2Proof.Machine.execAndEvIv81 e imm s
  | .subEvIv81 e imm => Sys2Proof.Machine.execSubEvIv81 e imm s
  | .xorEvIv81 e imm => Sys2Proof.Machine.execXorEvIv81 e imm s
  | .cmpEvIv81 e imm => Sys2Proof.Machine.execCmpEvIv81 e imm s
  | .addEbIb82 e imm => Sys2Proof.Machine.execAddEbIb82 e imm s
  | .orEbIb82 e imm => Sys2Proof.Machine.execOrEbIb82 e imm s
  | .adcEbIb82 e imm => Sys2Proof.Machine.execAdcEbIb82 e imm s
  | .sbbEbIb82 e imm => Sys2Proof.Machine.execSbbEbIb82 e imm s
  | .andEbIb82 e imm => Sys2Proof.Machine.execAndEbIb82 e imm s
  | .subEbIb82 e imm => Sys2Proof.Machine.execSubEbIb82 e imm s
  | .xorEbIb82 e imm => Sys2Proof.Machine.execXorEbIb82 e imm s
  | .cmpEbIb82 e imm => Sys2Proof.Machine.execCmpEbIb82 e imm s
  | .addEvIb83 e imm => Sys2Proof.Machine.execAddEvIb83 e imm s
  | .orEvIb83 e imm => Sys2Proof.Machine.execOrEvIb83 e imm s
  | .adcEvIb83 e imm => Sys2Proof.Machine.execAdcEvIb83 e imm s
  | .sbbEvIb83 e imm => Sys2Proof.Machine.execSbbEvIb83 e imm s
  | .andEvIb83 e imm => Sys2Proof.Machine.execAndEvIb83 e imm s
  | .subEvIb83 e imm => Sys2Proof.Machine.execSubEvIb83 e imm s
  | .xorEvIb83 e imm => Sys2Proof.Machine.execXorEvIb83 e imm s
  | .cmpEvIb83 e imm => Sys2Proof.Machine.execCmpEvIb83 e imm s
  -- TEST (R302, R303).
  | .testEbGb g e => Sys2Proof.Machine.execTestEbGb g e s
  | .testEvGv g e => Sys2Proof.Machine.execTestEvGv g e s
  -- INC r16 (R310).
  | .incAX => Sys2Proof.Machine.execIncAX s
  | .incCX => Sys2Proof.Machine.execIncCX s
  | .incDX => Sys2Proof.Machine.execIncDX s
  | .incBX => Sys2Proof.Machine.execIncBX s
  | .incSP => Sys2Proof.Machine.execIncSP s
  | .incBP => Sys2Proof.Machine.execIncBP s
  | .incSI => Sys2Proof.Machine.execIncSI s
  | .incDI => Sys2Proof.Machine.execIncDI s
  -- DEC r16 (R311).
  | .decAX => Sys2Proof.Machine.execDecAX s
  | .decCX => Sys2Proof.Machine.execDecCX s
  | .decDX => Sys2Proof.Machine.execDecDX s
  | .decBX => Sys2Proof.Machine.execDecBX s
  | .decSP => Sys2Proof.Machine.execDecSP s
  | .decBP => Sys2Proof.Machine.execDecBP s
  | .decSI => Sys2Proof.Machine.execDecSI s
  | .decDI => Sys2Proof.Machine.execDecDI s
  -- BCD adjust (R313 to R317).
  | .daa => Sys2Proof.Machine.execDaa s
  | .das => Sys2Proof.Machine.execDas s
  | .aaa => Sys2Proof.Machine.execAaa s
  | .aas => Sys2Proof.Machine.execAas s
  -- MOV r8,Ib (R330).
  | .movALIb imm => Sys2Proof.Machine.execMovALIb imm s
  | .movCLIb imm => Sys2Proof.Machine.execMovCLIb imm s
  | .movDLIb imm => Sys2Proof.Machine.execMovDLIb imm s
  | .movBLIb imm => Sys2Proof.Machine.execMovBLIb imm s
  | .movAHIb imm => Sys2Proof.Machine.execMovAHIb imm s
  | .movCHIb imm => Sys2Proof.Machine.execMovCHIb imm s
  | .movDHIb imm => Sys2Proof.Machine.execMovDHIb imm s
  | .movBHIb imm => Sys2Proof.Machine.execMovBHIb imm s
  -- MOV r16,Iv (R331).
  | .movAXIv imm => Sys2Proof.Machine.execMovAXIv imm s
  | .movCXIv imm => Sys2Proof.Machine.execMovCXIv imm s
  | .movDXIv imm => Sys2Proof.Machine.execMovDXIv imm s
  | .movBXIv imm => Sys2Proof.Machine.execMovBXIv imm s
  | .movSPIv imm => Sys2Proof.Machine.execMovSPIv imm s
  | .movBPIv imm => Sys2Proof.Machine.execMovBPIv imm s
  | .movSIIv imm => Sys2Proof.Machine.execMovSIIv imm s
  | .movDIIv imm => Sys2Proof.Machine.execMovDIIv imm s
  -- MOV with a direct offset (R333 to R337).
  | .movALMem ow => Sys2Proof.Machine.execMovALMem ow s
  | .movAXMem ow => Sys2Proof.Machine.execMovAXMem ow s
  | .movMemAL ow => Sys2Proof.Machine.execMovMemAL ow s
  | .movMemAX ow => Sys2Proof.Machine.execMovMemAX ow s
  -- XCHG Eb,Gb and Ev,Gv (R338, R339).
  | .xchgEbGb g e => Sys2Proof.Machine.execXchgEbGb g e s
  | .xchgEvGv g e => Sys2Proof.Machine.execXchgEvGv g e s
  -- NOP (R342).
  | .nop => Sys2Proof.Machine.execNop s
  -- XCHG AX,r16 (R343).
  | .xchgAXCX => Sys2Proof.Machine.execXchgAXCX s
  | .xchgAXDX => Sys2Proof.Machine.execXchgAXDX s
  | .xchgAXBX => Sys2Proof.Machine.execXchgAXBX s
  | .xchgAXSP => Sys2Proof.Machine.execXchgAXSP s
  | .xchgAXBP => Sys2Proof.Machine.execXchgAXBP s
  | .xchgAXSI => Sys2Proof.Machine.execXchgAXSI s
  | .xchgAXDI => Sys2Proof.Machine.execXchgAXDI s
  -- PUSH r16 (R344).
  | .pushAX => Sys2Proof.Machine.execPushAX s
  | .pushCX => Sys2Proof.Machine.execPushCX s
  | .pushDX => Sys2Proof.Machine.execPushDX s
  | .pushBX => Sys2Proof.Machine.execPushBX s
  | .pushSP => Sys2Proof.Machine.execPushSP s
  | .pushBP => Sys2Proof.Machine.execPushBP s
  | .pushSI => Sys2Proof.Machine.execPushSI s
  | .pushDI => Sys2Proof.Machine.execPushDI s
  -- POP r16 (R345).
  | .popAX => Sys2Proof.Machine.execPopAX s
  | .popCX => Sys2Proof.Machine.execPopCX s
  | .popDX => Sys2Proof.Machine.execPopDX s
  | .popBX => Sys2Proof.Machine.execPopBX s
  | .popSP => Sys2Proof.Machine.execPopSP s
  | .popBP => Sys2Proof.Machine.execPopBP s
  | .popSI => Sys2Proof.Machine.execPopSI s
  | .popDI => Sys2Proof.Machine.execPopDI s
  -- Jcc rel8 (R361 to R376).
  | .joRel8 d => Sys2Proof.Machine.execJoRel8 d s
  | .jnoRel8 d => Sys2Proof.Machine.execJnoRel8 d s
  | .jbRel8 d => Sys2Proof.Machine.execJbRel8 d s
  | .jnbRel8 d => Sys2Proof.Machine.execJnbRel8 d s
  | .jzRel8 d => Sys2Proof.Machine.execJzRel8 d s
  | .jnzRel8 d => Sys2Proof.Machine.execJnzRel8 d s
  | .jbeRel8 d => Sys2Proof.Machine.execJbeRel8 d s
  | .jaRel8 d => Sys2Proof.Machine.execJaRel8 d s
  | .jsRel8 d => Sys2Proof.Machine.execJsRel8 d s
  | .jnsRel8 d => Sys2Proof.Machine.execJnsRel8 d s
  | .jpeRel8 d => Sys2Proof.Machine.execJpeRel8 d s
  | .jpoRel8 d => Sys2Proof.Machine.execJpoRel8 d s
  | .jlRel8 d => Sys2Proof.Machine.execJlRel8 d s
  | .jgeRel8 d => Sys2Proof.Machine.execJgeRel8 d s
  | .jleRel8 d => Sys2Proof.Machine.execJleRel8 d s
  | .jgRel8 d => Sys2Proof.Machine.execJgRel8 d s
  -- JMP rel8 (R377).
  | .jmpRel8 d => Sys2Proof.Machine.execJmpRel8 d s
  -- The segment-override and repeat prefixes (R193, R195).
  | .prefixES => Sys2Proof.Machine.execPrefixES s
  | .prefixCS => Sys2Proof.Machine.execPrefixCS s
  | .prefixSS => Sys2Proof.Machine.execPrefixSS s
  | .prefixDS => Sys2Proof.Machine.execPrefixDS s
  | .repne => Sys2Proof.Machine.execRepne s
  | .rep => Sys2Proof.Machine.execRep s
  -- HLT (R200).
  | .hlt => Sys2Proof.Machine.execHlt s
  -- The 31 undefined opcode bytes, one-byte no-ops (R103, R198).
  | .undef0F => Sys2Proof.Machine.execUndef0F s
  | .undef60 => Sys2Proof.Machine.execUndef60 s
  | .undef61 => Sys2Proof.Machine.execUndef61 s
  | .undef62 => Sys2Proof.Machine.execUndef62 s
  | .undef63 => Sys2Proof.Machine.execUndef63 s
  | .undef64 => Sys2Proof.Machine.execUndef64 s
  | .undef65 => Sys2Proof.Machine.execUndef65 s
  | .undef66 => Sys2Proof.Machine.execUndef66 s
  | .undef67 => Sys2Proof.Machine.execUndef67 s
  | .undef68 => Sys2Proof.Machine.execUndef68 s
  | .undef69 => Sys2Proof.Machine.execUndef69 s
  | .undef6A => Sys2Proof.Machine.execUndef6A s
  | .undef6B => Sys2Proof.Machine.execUndef6B s
  | .undef6C => Sys2Proof.Machine.execUndef6C s
  | .undef6D => Sys2Proof.Machine.execUndef6D s
  | .undef6E => Sys2Proof.Machine.execUndef6E s
  | .undef6F => Sys2Proof.Machine.execUndef6F s
  | .undefC0 => Sys2Proof.Machine.execUndefC0 s
  | .undefC1 => Sys2Proof.Machine.execUndefC1 s
  | .undefC8 => Sys2Proof.Machine.execUndefC8 s
  | .undefC9 => Sys2Proof.Machine.execUndefC9 s
  | .undefD6 => Sys2Proof.Machine.execUndefD6 s
  | .escD8 => Sys2Proof.Machine.execEscD8 s
  | .escD9 => Sys2Proof.Machine.execEscD9 s
  | .escDA => Sys2Proof.Machine.execEscDA s
  | .escDB => Sys2Proof.Machine.execEscDB s
  | .escDC => Sys2Proof.Machine.execEscDC s
  | .escDD => Sys2Proof.Machine.execEscDD s
  | .escDE => Sys2Proof.Machine.execEscDE s
  | .escDF => Sys2Proof.Machine.execEscDF s
  | .undefF1 => Sys2Proof.Machine.execUndefF1 s
  -- The 81 uncovered opcode bytes, which have no operands here because the spec gives them no length (R104, R199).
  | .pushES => Sys2Proof.Machine.execPushES s
  | .popES => Sys2Proof.Machine.execPopES s
  | .pushCS => Sys2Proof.Machine.execPushCS s
  | .pushSS => Sys2Proof.Machine.execPushSS s
  | .popSS => Sys2Proof.Machine.execPopSS s
  | .pushDS => Sys2Proof.Machine.execPushDS s
  | .popDS => Sys2Proof.Machine.execPopDS s
  | .movEbGb => Sys2Proof.Machine.execMovEbGb s
  | .movEvGv => Sys2Proof.Machine.execMovEvGv s
  | .movGbEb => Sys2Proof.Machine.execMovGbEb s
  | .movGvEv => Sys2Proof.Machine.execMovGvEv s
  | .movEwSw => Sys2Proof.Machine.execMovEwSw s
  | .lea => Sys2Proof.Machine.execLea s
  | .movSwEw => Sys2Proof.Machine.execMovSwEw s
  | .popEv => Sys2Proof.Machine.execPopEv s
  | .cbw => Sys2Proof.Machine.execCbw s
  | .cwd => Sys2Proof.Machine.execCwd s
  | .callFar => Sys2Proof.Machine.execCallFar s
  | .wait => Sys2Proof.Machine.execWait s
  | .pushf => Sys2Proof.Machine.execPushf s
  | .popf => Sys2Proof.Machine.execPopf s
  | .sahf => Sys2Proof.Machine.execSahf s
  | .lahf => Sys2Proof.Machine.execLahf s
  | .movsb => Sys2Proof.Machine.execMovsb s
  | .movsw => Sys2Proof.Machine.execMovsw s
  | .cmpsb => Sys2Proof.Machine.execCmpsb s
  | .cmpsw => Sys2Proof.Machine.execCmpsw s
  | .testALIb => Sys2Proof.Machine.execTestALIb s
  | .testAXIv => Sys2Proof.Machine.execTestAXIv s
  | .stosb => Sys2Proof.Machine.execStosb s
  | .stosw => Sys2Proof.Machine.execStosw s
  | .lodsb => Sys2Proof.Machine.execLodsb s
  | .lodsw => Sys2Proof.Machine.execLodsw s
  | .scasb => Sys2Proof.Machine.execScasb s
  | .scasw => Sys2Proof.Machine.execScasw s
  | .retIw => Sys2Proof.Machine.execRetIw s
  | .ret => Sys2Proof.Machine.execRet s
  | .les => Sys2Proof.Machine.execLes s
  | .lds => Sys2Proof.Machine.execLds s
  | .movEbIb => Sys2Proof.Machine.execMovEbIb s
  | .movEvIv => Sys2Proof.Machine.execMovEvIv s
  | .retfIw => Sys2Proof.Machine.execRetfIw s
  | .retf => Sys2Proof.Machine.execRetf s
  | .int3 => Sys2Proof.Machine.execInt3 s
  | .intIb => Sys2Proof.Machine.execIntIb s
  | .into => Sys2Proof.Machine.execInto s
  | .iret => Sys2Proof.Machine.execIret s
  | .shiftEb1 => Sys2Proof.Machine.execShiftEb1 s
  | .shiftEv1 => Sys2Proof.Machine.execShiftEv1 s
  | .shiftEbCL => Sys2Proof.Machine.execShiftEbCL s
  | .shiftEvCL => Sys2Proof.Machine.execShiftEvCL s
  | .aam => Sys2Proof.Machine.execAam s
  | .aad => Sys2Proof.Machine.execAad s
  | .xlat => Sys2Proof.Machine.execXlat s
  | .loopnz => Sys2Proof.Machine.execLoopnz s
  | .loopz => Sys2Proof.Machine.execLoopz s
  | .loop => Sys2Proof.Machine.execLoop s
  | .jcxz => Sys2Proof.Machine.execJcxz s
  | .inALIb => Sys2Proof.Machine.execInALIb s
  | .inAXIb => Sys2Proof.Machine.execInAXIb s
  | .outIbAL => Sys2Proof.Machine.execOutIbAL s
  | .outIbAX => Sys2Proof.Machine.execOutIbAX s
  | .callRel16 => Sys2Proof.Machine.execCallRel16 s
  | .jmpRel16 => Sys2Proof.Machine.execJmpRel16 s
  | .jmpFar => Sys2Proof.Machine.execJmpFar s
  | .inALDX => Sys2Proof.Machine.execInALDX s
  | .inAXDX => Sys2Proof.Machine.execInAXDX s
  | .outDXAL => Sys2Proof.Machine.execOutDXAL s
  | .outDXAX => Sys2Proof.Machine.execOutDXAX s
  | .lock => Sys2Proof.Machine.execLock s
  | .cmc => Sys2Proof.Machine.execCmc s
  | .grp3Eb => Sys2Proof.Machine.execGrp3Eb s
  | .grp3Ev => Sys2Proof.Machine.execGrp3Ev s
  | .clc => Sys2Proof.Machine.execClc s
  | .stc => Sys2Proof.Machine.execStc s
  | .cli => Sys2Proof.Machine.execCli s
  | .sti => Sys2Proof.Machine.execSti s
  | .cld => Sys2Proof.Machine.execCld s
  | .std => Sys2Proof.Machine.execStd s
  | .grp4Eb => Sys2Proof.Machine.execGrp4Eb s
  | .grp5Ev => Sys2Proof.Machine.execGrp5Ev s

end Sys2Proof.Machine
end

