-- ==== Sys2Proof/Machine/Step.lean ====
section
/-! DEFINITION. One iteration of the dispatch loop of `execute` (R190, R191). -/

namespace Sys2Proof.Machine

/-- R190 steps 3 and 4 for a decoded instruction of `n` bytes: IP passes its bytes, its handler runs, and a non-prefix
instruction consumes one quantum and ends the prefixes. -/
def runInstr (i : Instr) (n : Nat) (s : State) : Host.Outcome State Fault Refusal :=
  mapNext (fun t => t.endIteration i) (exec i (s.advanceIP n))

/-- One iteration of the loop while it runs: the opcode byte at CS:IP selects its handler, the one a setting installs or the
instruction the bytes are. When the budget is spent or the block is halted the loop has returned to the host and the state is
held (R190, R426). -/
def step (s : State) : Host.Outcome State Fault Refusal :=
  if s.idle then .next s
  else
    match installedAt s.params s.opcodeByte with
    | some h => runInstalled h s
    | none =>
      match decode s.fetchWindow with
      | .ok (i, rest) => runInstr i (maxLength - rest.length) s
      | .error _ => .refused .truncatedFetch

/-- The instruction whose table bits are the low `nbits` bits of `w`, placed at CS:IP with a budget to run it (log 7). -/
def State.withFetchWord (s : State) (nbits w : Nat) : State :=
  { s with
    mem := s.mem.place (s.getSeg .cs) s.ip (bytesOfNat maxLength (w % 2 ^ nbits))
    budget := if s.budget = 0 then 1 else s.budget
    halted := false }

end Sys2Proof.Machine
end

