-- ==== Sys2Proof/Machine/HostPort.lean ====
section
/-! DEFINITION. The host port (R45 to R48, R190, R440): what the agent outside the block may do while no `execute` is in
progress. Each action is one move of the host; `step` is the block's own move. -/

namespace Sys2Proof.Machine

/-- The segment register an encoding names (R25). -/
def segOfCode (c : BitVec 2) : SegReg :=
  #v[SegReg.es, .cs, .ss, .ds][c.toNat]

/-- A segment register written whole (R25); only the host does so (R26). -/
def SegRegs.set (g : SegRegs) (r : SegReg) (v : Word) : SegRegs :=
  match r with
  | .es => { g with es := v } | .cs => { g with cs := v } | .ss => { g with ss := v } | .ds => { g with ds := v }

/-- Byte `i` of a word: 0 is the low byte (R46, R65). -/
def byteOf (v : Word) (i : Nat) : Byte := if i % 2 = 0 then lowByte v else highByte v

/-- A word with byte `i` replaced (R46, R65). -/
def withByte (v : Word) (i : Nat) (b : Byte) : Word :=
  if i % 2 = 0 then wordOf b (highByte v) else wordOf (lowByte v) b

/-- The general register whose bytes stand at image offsets `2i` and `2i+1` (R46). -/
def imageReg (o : Nat) : Reg16 := Reg16.ofCode (BitVec.ofNat 3 (o / 2))

/-- The segment register whose bytes stand at image offsets `16+2i` and `17+2i` (R46). -/
def imageSeg (o : Nat) : SegReg := segOfCode (BitVec.ofNat 2 ((o - 16) / 2))

/-- The size of the host image: 40 bytes of registers and flags and the 1 MiB RAM (R46). -/
def imageSize : Nat := 40 + 2 ^ 20

/-- A flag in its slot of the image: 0 or 1 (R47). -/
def flagByte : Bool → Byte
  | false => 0#8
  | true => 1#8

/-- The byte at an offset of the host image (R46, R47). -/
def imageByte (s : State) (o : Nat) : Byte :=
  if o < 16 then byteOf (s.get16 (imageReg o)) o
  else if o < 24 then byteOf (s.getSeg (imageSeg o)) o
  else if o < 40 then flagByte (s.flags.getBit (o - 24))
  else s.mem.read (o - 40)

/-- The host reads its image; while `execute` runs, and outside the image, there is nothing to read (R45, R48). -/
def hostRead (s : State) (o : Nat) : Option Byte :=
  if s.idle && decide (o < imageSize) then some (imageByte s o) else none

/-- The host reads IP, which is not in the image (R45, R46). -/
def hostReadIP (s : State) : Option Word := if s.idle then some s.ip else none

/-- What the host may do (R45, R440). -/
inductive HostAction where
  /-- `execute(n)`: the budget is loaded and the loop runs (R190). -/
  | execute (n : Nat)
  /-- One byte of the host image is written (R46). That one move writes one byte is the model's choice (log 22). -/
  | write (offset : Nat) (b : Byte)
  /-- The reset event with the seed of IP (R440, R441). -/
  | reset (seed : Word)
  deriving DecidableEq, Repr

/-- A write of one byte of the host image (R46, R47): a reserved flag slot ignores it (R28), a defined slot takes 0 or 1. R25 has
segment registers written as whole words only and R46 gives the host byte offsets and no unit. DESIGN CHOICE, safe: one move
writes one byte, so the register is rewritten whole with its other byte kept, and a new word is two moves (log 22). -/
def imageWrite (s : State) (o : Nat) (b : Byte) : Result :=
  if o < 16 then .next (s.set16 (imageReg o) (withByte (s.get16 (imageReg o)) o b))
  else if o < 24 then
    .next { s with sregs := s.sregs.set (imageSeg o) (withByte (s.getSeg (imageSeg o)) o b) }
  else if o < 40 then
    if !isFlagBit (o - 24) then .next s
    else if b = 0#8 ∨ b = 1#8 then .next (s.setFlags (s.flags.setBit (o - 24) (b == 1#8)))
    else .refused (.hostFlagByte (o - 24) b)
  else if o < imageSize then .next { s with mem := s.mem.write (o - 40) b }
  else .refused (.hostOutsideImage o)

/-- R440 to R443: reset leaves RAM as it is; `draws` goes on counting, so that no free value is taken twice, and the settings
stay. -/
def State.hostReset (s : State) (seed : Word) : State := { State.resetWith s.params seed s.mem with draws := s.draws }

/-- One move of the host, which has none while `execute` runs (R48). -/
def hostAct (a : HostAction) (s : State) : Result :=
  if !s.idle then .refused .hostDuringExecute
  else
    match a with
    | .execute n => .next { s with budget := n }
    | .write o b => imageWrite s o b
    | .reset seed => .next (s.hostReset seed)

end Sys2Proof.Machine
end

