-- ==== Sys2Proof/Safety.lean ====
section
/-! DEFINITION. What claims mean by a good state, by a run of `execute`, and by a reachable state. -/

namespace Sys2Proof.Machine

/-- A state between two iterations as the spec describes it: memory in its canonical form; no prefix pending while no
`execute` is in progress (R35, R197); a pending override holds the value of a segment register (R193). -/
structure State.Good (s : State) : Prop where
  memory : s.mem.wf = true
  clean : s.idle = true → s.tr.segOverride = false ∧ s.tr.rep = .none
  override : s.tr.segOverride = true → ∃ r, s.tr.seg = s.getSeg r

/-- `k` iterations of the dispatch loop. -/
def runSteps (k : Nat) (s : State) : Result := Host.Core.run Sys2Proof.core k s

/-- `execute(n)` called in `s` returns to the host in `t` (R190, R201). -/
def Executes (n : Nat) (s t : State) : Prop :=
  s.idle = true ∧ t.idle = true ∧ ∃ k, runSteps k { s with budget := n } = .next t

/-- The states the block and its host can bring about from reset under any setting of the parameters (R440, R445, R71). -/
inductive Reachable : State → Prop where
  | reset (p : Params) (seed : Word) (ram : Memory) (h : ram.wf = true) : Reachable (State.resetWith p seed ram)
  | step {s t : State} (h : Reachable s) (e : step s = .next t) : Reachable t
  | host {s t : State} (a : HostAction) (h : Reachable s) (e : hostAct a s = .next t) : Reachable t

end Sys2Proof.Machine
end

