-- ==== Sys2Proof/Certificates/Slice0/Obligations.lean ====
section
/-! DEFINITION. The statements for the provers, each read from the numbered rules of spec/ that its docstring names, and the
few notions they share: the instruction families, the flag rules in integer arithmetic, and what an instruction leaves alone. -/

namespace Sys2Proof.Spec

open Sys2Proof.Machine

/-! ### Families of instructions -/

/-- The eight instructions of form `Eb,Gb` (R97). -/
def opEbGb : AluOp → Reg8 → Operand Reg8 → Instr
  | .add => .addEbGb
  | .or => .orEbGb
  | .adc => .adcEbGb
  | .sbb => .sbbEbGb
  | .and => .andEbGb
  | .sub => .subEbGb
  | .xor => .xorEbGb
  | .cmp => .cmpEbGb

/-- The eight instructions of form `Ev,Gv` (R97). -/
def opEvGv : AluOp → Reg16 → Operand Reg16 → Instr
  | .add => .addEvGv
  | .or => .orEvGv
  | .adc => .adcEvGv
  | .sbb => .sbbEvGv
  | .and => .andEvGv
  | .sub => .subEvGv
  | .xor => .xorEvGv
  | .cmp => .cmpEvGv

/-- The eight instructions of form `Gb,Eb` (R97). -/
def opGbEb : AluOp → Reg8 → Operand Reg8 → Instr
  | .add => .addGbEb
  | .or => .orGbEb
  | .adc => .adcGbEb
  | .sbb => .sbbGbEb
  | .and => .andGbEb
  | .sub => .subGbEb
  | .xor => .xorGbEb
  | .cmp => .cmpGbEb

/-- The eight instructions of form `Gv,Ev` (R97). -/
def opGvEv : AluOp → Reg16 → Operand Reg16 → Instr
  | .add => .addGvEv
  | .or => .orGvEv
  | .adc => .adcGvEv
  | .sbb => .sbbGvEv
  | .and => .andGvEv
  | .sub => .subGvEv
  | .xor => .xorGvEv
  | .cmp => .cmpGvEv

/-- The eight instructions of form `AL,Ib` (R97). -/
def opALIb : AluOp → Byte → Instr
  | .add => .addALIb
  | .or => .orALIb
  | .adc => .adcALIb
  | .sbb => .sbbALIb
  | .and => .andALIb
  | .sub => .subALIb
  | .xor => .xorALIb
  | .cmp => .cmpALIb

/-- The eight instructions of form `AX,Iv` (R97). -/
def opAXIv : AluOp → Word → Instr
  | .add => .addAXIv
  | .or => .orAXIv
  | .adc => .adcAXIv
  | .sbb => .sbbAXIv
  | .and => .andAXIv
  | .sub => .subAXIv
  | .xor => .xorAXIv
  | .cmp => .cmpAXIv

/-- Group 1, opcode 0x80 (R99). -/
def group80 : AluOp → Operand Reg8 → Byte → Instr
  | .add => .addEbIb80
  | .or => .orEbIb80
  | .adc => .adcEbIb80
  | .sbb => .sbbEbIb80
  | .and => .andEbIb80
  | .sub => .subEbIb80
  | .xor => .xorEbIb80
  | .cmp => .cmpEbIb80

/-- Group 1, opcode 0x81 (R99). -/
def group81 : AluOp → Operand Reg16 → Word → Instr
  | .add => .addEvIv81
  | .or => .orEvIv81
  | .adc => .adcEvIv81
  | .sbb => .sbbEvIv81
  | .and => .andEvIv81
  | .sub => .subEvIv81
  | .xor => .xorEvIv81
  | .cmp => .cmpEvIv81

/-- Group 1, opcode 0x82 (R99). -/
def group82 : AluOp → Operand Reg8 → Byte → Instr
  | .add => .addEbIb82
  | .or => .orEbIb82
  | .adc => .adcEbIb82
  | .sbb => .sbbEbIb82
  | .and => .andEbIb82
  | .sub => .subEbIb82
  | .xor => .xorEbIb82
  | .cmp => .cmpEbIb82

/-- Group 1, opcode 0x83 (R99). -/
def group83 : AluOp → Operand Reg16 → Byte → Instr
  | .add => .addEvIb83
  | .or => .orEvIb83
  | .adc => .adcEvIb83
  | .sbb => .sbbEvIb83
  | .and => .andEvIb83
  | .sub => .subEvIb83
  | .xor => .xorEvIb83
  | .cmp => .cmpEvIb83

/-- INC r16 (R310). -/
def incReg16 : Reg16 → Instr
  | .ax => .incAX | .cx => .incCX | .dx => .incDX | .bx => .incBX | .sp => .incSP | .bp => .incBP | .si => .incSI
  | .di => .incDI

/-- DEC r16 (R311). -/
def decReg16 : Reg16 → Instr
  | .ax => .decAX | .cx => .decCX | .dx => .decDX | .bx => .decBX | .sp => .decSP | .bp => .decBP | .si => .decSI
  | .di => .decDI

/-- PUSH r16 (R344). -/
def pushReg16 : Reg16 → Instr
  | .ax => .pushAX | .cx => .pushCX | .dx => .pushDX | .bx => .pushBX | .sp => .pushSP | .bp => .pushBP
  | .si => .pushSI | .di => .pushDI

/-- POP r16 (R345). -/
def popReg16 : Reg16 → Instr
  | .ax => .popAX | .cx => .popCX | .dx => .popDX | .bx => .popBX | .sp => .popSP | .bp => .popBP | .si => .popSI
  | .di => .popDI

/-- XCHG AX,r16 (R343); its r = 0 member is NOP (R105, R342). -/
def xchgWithAX : Reg16 → Instr
  | .ax => .nop | .cx => .xchgAXCX | .dx => .xchgAXDX | .bx => .xchgAXBX | .sp => .xchgAXSP | .bp => .xchgAXBP
  | .si => .xchgAXSI | .di => .xchgAXDI

/-- MOV r8,Ib (R330). -/
def movByte : Reg8 → Byte → Instr
  | .al => .movALIb | .cl => .movCLIb | .dl => .movDLIb | .bl => .movBLIb | .ah => .movAHIb | .ch => .movCHIb
  | .dh => .movDHIb | .bh => .movBHIb

/-- MOV r16,Iv (R331). -/
def movWord : Reg16 → Word → Instr
  | .ax => .movAXIv | .cx => .movCXIv | .dx => .movDXIv | .bx => .movBXIv | .sp => .movSPIv | .bp => .movBPIv
  | .si => .movSIIv | .di => .movDIIv

/-- Jcc rel8 (R361 to R376). -/
def jumpOn : Cond → Byte → Instr
  | .jo => .joRel8 | .jno => .jnoRel8 | .jb => .jbRel8 | .jnb => .jnbRel8 | .jz => .jzRel8 | .jnz => .jnzRel8
  | .jbe => .jbeRel8 | .ja => .jaRel8 | .js => .jsRel8 | .jns => .jnsRel8 | .jpe => .jpeRel8 | .jpo => .jpoRel8
  | .jl => .jlRel8 | .jge => .jgeRel8 | .jle => .jleRel8 | .jg => .jgRel8

/-- The segment-override prefixes (R193). -/
def overrideBy : SegReg → Instr
  | .es => .prefixES | .cs => .prefixCS | .ss => .prefixSS | .ds => .prefixDS

/-- The undefined opcodes, part 1. -/
def undefinedOpcodes1 : List (Byte × Instr) :=
  [(0x0F#8, .undef0F), (0x60#8, .undef60), (0x61#8, .undef61), (0x62#8, .undef62), (0x63#8, .undef63),
   (0x64#8, .undef64), (0x65#8, .undef65), (0x66#8, .undef66), (0x67#8, .undef67), (0x68#8, .undef68),
   (0x69#8, .undef69), (0x6A#8, .undef6A), (0x6B#8, .undef6B), (0x6C#8, .undef6C), (0x6D#8, .undef6D),
   (0x6E#8, .undef6E)]

/-- The undefined opcodes, part 2. -/
def undefinedOpcodes2 : List (Byte × Instr) :=
  [(0x6F#8, .undef6F), (0xC0#8, .undefC0), (0xC1#8, .undefC1), (0xC8#8, .undefC8), (0xC9#8, .undefC9),
   (0xD6#8, .undefD6), (0xD8#8, .escD8), (0xD9#8, .escD9), (0xDA#8, .escDA), (0xDB#8, .escDB),
   (0xDC#8, .escDC), (0xDD#8, .escDD), (0xDE#8, .escDE), (0xDF#8, .escDF), (0xF1#8, .undefF1)]

/-- The 31 undefined opcodes (R103). -/
def undefinedOpcodes : List (Byte × Instr) :=
  undefinedOpcodes1 ++ undefinedOpcodes2

/-- The uncovered opcodes, part 1. -/
def uncoveredOpcodes1 : List (Byte × Instr) :=
  [(0x06#8, .pushES), (0x07#8, .popES), (0x0E#8, .pushCS), (0x16#8, .pushSS), (0x17#8, .popSS),
   (0x1E#8, .pushDS), (0x1F#8, .popDS), (0x88#8, .movEbGb), (0x89#8, .movEvGv), (0x8A#8, .movGbEb),
   (0x8B#8, .movGvEv), (0x8C#8, .movEwSw), (0x8D#8, .lea), (0x8E#8, .movSwEw), (0x8F#8, .popEv),
   (0x98#8, .cbw), (0x99#8, .cwd), (0x9A#8, .callFar), (0x9B#8, .wait), (0x9C#8, .pushf)]

/-- The uncovered opcodes, part 2. -/
def uncoveredOpcodes2 : List (Byte × Instr) :=
  [(0x9D#8, .popf), (0x9E#8, .sahf), (0x9F#8, .lahf), (0xA4#8, .movsb), (0xA5#8, .movsw),
   (0xA6#8, .cmpsb), (0xA7#8, .cmpsw), (0xA8#8, .testALIb), (0xA9#8, .testAXIv), (0xAA#8, .stosb),
   (0xAB#8, .stosw), (0xAC#8, .lodsb), (0xAD#8, .lodsw), (0xAE#8, .scasb), (0xAF#8, .scasw),
   (0xC2#8, .retIw), (0xC3#8, .ret), (0xC4#8, .les), (0xC5#8, .lds), (0xC6#8, .movEbIb)]

/-- The uncovered opcodes, part 3. -/
def uncoveredOpcodes3 : List (Byte × Instr) :=
  [(0xC7#8, .movEvIv), (0xCA#8, .retfIw), (0xCB#8, .retf), (0xCC#8, .int3), (0xCD#8, .intIb),
   (0xCE#8, .into), (0xCF#8, .iret), (0xD0#8, .shiftEb1), (0xD1#8, .shiftEv1), (0xD2#8, .shiftEbCL),
   (0xD3#8, .shiftEvCL), (0xD4#8, .aam), (0xD5#8, .aad), (0xD7#8, .xlat), (0xE0#8, .loopnz),
   (0xE1#8, .loopz), (0xE2#8, .loop), (0xE3#8, .jcxz), (0xE4#8, .inALIb), (0xE5#8, .inAXIb)]

/-- The uncovered opcodes, part 4. -/
def uncoveredOpcodes4 : List (Byte × Instr) :=
  [(0xE6#8, .outIbAL), (0xE7#8, .outIbAX), (0xE8#8, .callRel16), (0xE9#8, .jmpRel16), (0xEA#8, .jmpFar),
   (0xEC#8, .inALDX), (0xED#8, .inAXDX), (0xEE#8, .outDXAL), (0xEF#8, .outDXAX), (0xF0#8, .lock),
   (0xF5#8, .cmc), (0xF6#8, .grp3Eb), (0xF7#8, .grp3Ev), (0xF8#8, .clc), (0xF9#8, .stc),
   (0xFA#8, .cli), (0xFB#8, .sti), (0xFC#8, .cld), (0xFD#8, .std), (0xFE#8, .grp4Eb)]

/-- The uncovered opcodes, part 5. -/
def uncoveredOpcodes5 : List (Byte × Instr) :=
  [(0xFF#8, .grp5Ev)]

/-- The 81 uncovered opcodes (R104). -/
def uncoveredOpcodes : List (Byte × Instr) :=
  uncoveredOpcodes1 ++ uncoveredOpcodes2 ++ uncoveredOpcodes3 ++ uncoveredOpcodes4 ++ uncoveredOpcodes5

/-- The prefix bytes (R106). -/
def prefixBytes : List Byte := [0x26#8, 0x2E#8, 0x36#8, 0x3E#8, 0xF2#8, 0xF3#8]

/-! ### Operand values and addresses before an instruction -/

/-- The address of a memory operand: its segment value, the override's or the default register's (R164). -/
def memSeg (s : State) (a : MemAddr) : Word := s.operandSeg (defaultSeg a)

/-- The address of a memory operand: its offset (R162). -/
def memOff (s : State) (a : MemAddr) : Word := effectiveOffset s.regs a

/-- The value of a byte `E` operand (R168). -/
def valueEb (s : State) : Operand Reg8 → Byte
  | .reg r => s.get8 r
  | .mem a => s.read8 (memSeg s a) (memOff s a)

/-- The value of a word `E` operand (R168). -/
def valueEv (s : State) : Operand Reg16 → Word
  | .reg r => s.get16 r
  | .mem a => s.read16 (memSeg s a) (memOff s a)

/-- After the instruction, the place of the `E` operand (found before it) holds `v` (R169). -/
def HoldsEb (s t : State) (v : Byte) : Operand Reg8 → Prop
  | .reg r => t.get8 r = v
  | .mem a => t.read8 (memSeg s a) (memOff s a) = v

/-- After the instruction, the place of the `E` operand (found before it) holds `v` (R169). -/
def HoldsEv (s t : State) (v : Word) : Operand Reg16 → Prop
  | .reg r => t.get16 r = v
  | .mem a => t.read16 (memSeg s a) (memOff s a) = v

/-! ### The flag rules in integer arithmetic (R131, R136 to R138, R143) -/

/-- ZF, SF and PF of a result (R131). -/
def ResultFlags {w : Nat} (r : BitVec w) (f : Flags) : Prop :=
  (f.ZF = true ↔ r.toNat = 0) ∧ (f.SF = true ↔ 2 ^ (w - 1) ≤ r.toNat) ∧
  (f.PF = true ↔ (List.range 8).countP (fun i => r.getLsbD i) % 2 = 0)

/-- The exact integer lies in the signed range of the width (R137). -/
def FitsSigned (w : Nat) (x : Int) : Prop := -(2 : Int) ^ (w - 1) ≤ x ∧ x < (2 : Int) ^ (w - 1)

/-- The result and flags of an addition with carry-in `c` (R133, R143). -/
def AddEffect {w : Nat} (d x : BitVec w) (c : Bool) (r : BitVec w) (f : Flags) : Prop :=
  r.toNat = (d.toNat + x.toNat + c.toNat) % 2 ^ w ∧
  (f.CF = true ↔ 2 ^ w ≤ d.toNat + x.toNat + c.toNat) ∧
  (f.AF = true ↔ 15 < d.toNat % 16 + x.toNat % 16 + c.toNat) ∧
  (f.OF = true ↔ ¬ FitsSigned w (d.toInt + x.toInt + c.toNat)) ∧
  ResultFlags r f

/-- The result and flags of a subtraction with borrow-in `c` (R134, R143). -/
def SubEffect {w : Nat} (d x : BitVec w) (c : Bool) (r : BitVec w) (f : Flags) : Prop :=
  (r.toNat : Int) = ((d.toNat : Int) - x.toNat - c.toNat) % 2 ^ w ∧
  (f.CF = true ↔ d.toNat < x.toNat + c.toNat) ∧
  (f.AF = true ↔ d.toNat % 16 < x.toNat % 16 + c.toNat) ∧
  (f.OF = true ↔ ¬ FitsSigned w (d.toInt - x.toInt - c.toNat)) ∧
  ResultFlags r f

/-- The flags of a logical operation (R138). AF = 0 under the setting `zero` of `LOGIC_AF`, the spec's decision D12; under `any`
AF is a free value and nothing is said of it (log 2). -/
def LogicEffect {w : Nat} (p : Params) (r : BitVec w) (f : Flags) : Prop :=
  f.CF = false ∧ f.OF = false ∧ (p.logicAf = .zero → f.AF = false) ∧ ResultFlags r f

/-- The result and flags of operation `k` on operands `d`, `x` with the old carry `c` (R139), under the settings `p`. -/
def AluEffect {w : Nat} (p : Params) (k : AluOp) (d x : BitVec w) (c : Bool) (r : BitVec w) (f : Flags) : Prop :=
  match k with
  | .add => AddEffect d x false r f
  | .or => (∀ i, r.getLsbD i = (d.getLsbD i || x.getLsbD i)) ∧ LogicEffect p r f
  | .adc => AddEffect d x c r f
  | .sbb => SubEffect d x c r f
  | .and => (∀ i, r.getLsbD i = (d.getLsbD i && x.getLsbD i)) ∧ LogicEffect p r f
  | .sub => SubEffect d x false r f
  | .xor => (∀ i, r.getLsbD i = (d.getLsbD i != x.getLsbD i)) ∧ LogicEffect p r f
  | .cmp => SubEffect d x false r f

/-! ### What an instruction leaves alone -/

/-- Segment registers, TF, IF, DF, the pending prefixes, the budget, the halt bit and the parameters are unchanged (R26, R31).
-/
def KeepsControl (s t : State) : Prop :=
  t.sregs = s.sregs ∧ t.flags.TF = s.flags.TF ∧ t.flags.IF = s.flags.IF ∧ t.flags.DF = s.flags.DF ∧
  t.tr.segOverride = s.tr.segOverride ∧ t.tr.rep = s.tr.rep ∧ t.budget = s.budget ∧ t.halted = s.halted ∧
  t.params = s.params

/-- Every flag is unchanged. -/
def KeepsFlags (s t : State) : Prop := t.flags = s.flags

/-- Every general register is unchanged. -/
def KeepsRegs (s t : State) : Prop := ∀ q, t.get16 q = s.get16 q

/-- Every byte of memory is unchanged. -/
def KeepsMemory (s t : State) : Prop := ∀ a, t.mem.read a = s.mem.read a

/-- Every general register but `r` is unchanged. -/
def KeepsRegsBut (r : Reg16) (s t : State) : Prop := ∀ q, q ≠ r → t.get16 q = s.get16 q

/-- Every 8-bit register but `r`, and every 16-bit register `r` is no byte of, is unchanged (R23). -/
def KeepsRegsButByte (r : Reg8) (s t : State) : Prop :=
  (∀ q : Reg8, q ≠ r → t.get8 q = s.get8 q) ∧ ∀ q : Reg16, q ≠ home r → t.get16 q = s.get16 q

/-- Every byte of memory but the one at `seg:off` is unchanged. -/
def KeepsMemoryButByte (seg off : Word) (s t : State) : Prop :=
  ∀ a, a ≠ (phys seg off).toNat → t.mem.read a = s.mem.read a

/-- Every byte of memory but the two of the word at `seg:off` is unchanged (R64). -/
def KeepsMemoryButWord (seg off : Word) (s t : State) : Prop :=
  ∀ a, a ≠ (phys seg off).toNat → a ≠ (phys seg (off + 1#16)).toNat → t.mem.read a = s.mem.read a

/-- Only the byte `E` operand may change among registers and memory, and nothing when `writes` is false. -/
def KeepsAllButEb (writes : Bool) (s t : State) (e : Operand Reg8) : Prop :=
  match writes, e with
  | false, _ => KeepsRegs s t ∧ KeepsMemory s t
  | true, .reg r => KeepsRegsButByte r s t ∧ KeepsMemory s t
  | true, .mem a => KeepsRegs s t ∧ KeepsMemoryButByte (memSeg s a) (memOff s a) s t

/-- Only the word `E` operand may change among registers and memory, and nothing when `writes` is false. -/
def KeepsAllButEv (writes : Bool) (s t : State) (e : Operand Reg16) : Prop :=
  match writes, e with
  | false, _ => KeepsRegs s t ∧ KeepsMemory s t
  | true, .reg r => KeepsRegsBut r s t ∧ KeepsMemory s t
  | true, .mem a => KeepsRegs s t ∧ KeepsMemoryButWord (memSeg s a) (memOff s a) s t

/-- Only the byte register `r` may change among registers and memory, and nothing when `writes` is false. -/
def KeepsAllButGb (writes : Bool) (s t : State) (r : Reg8) : Prop :=
  KeepsMemory s t ∧ (if writes then KeepsRegsButByte r s t else KeepsRegs s t)

/-- Only the word register `r` may change among registers and memory, and nothing when `writes` is false. -/
def KeepsAllButGv (writes : Bool) (s t : State) (r : Reg16) : Prop :=
  KeepsMemory s t ∧ (if writes then KeepsRegsBut r s t else KeepsRegs s t)

/-- The operations that store their result: all but CMP (R139, R140). -/
def stores : AluOp → Bool
  | .cmp => false
  | .add | .or | .adc | .sbb | .and | .sub | .xor => true

/-! ### Decoding by the book -/

/-- The displacement bytes a ModR/M byte asks for (R93, R102). -/
def dispLength (modrm : Byte) : Nat :=
  if modrm.toNat / 64 = 1 then 1
  else if modrm.toNat / 64 = 2 then 2
  else if modrm.toNat / 64 = 0 ∧ modrm.toNat % 8 = 6 then 2
  else 0

/-- The length of the instruction an opcode byte and the byte after it open (R91, R100, R102). -/
def lengthByFormat (op modrm : Byte) : Nat :=
  let n := op.toNat
  if n < 0x40 ∧ n % 8 < 4 then 2 + dispLength modrm
  else if n < 0x40 ∧ n % 8 = 4 then 2
  else if n < 0x40 ∧ n % 8 = 5 then 3
  else if 0x70 ≤ n ∧ n < 0x80 then 2
  else if n = 0x80 ∨ n = 0x82 ∨ n = 0x83 then 3 + dispLength modrm
  else if n = 0x81 then 4 + dispLength modrm
  else if 0x84 ≤ n ∧ n < 0x88 then 2 + dispLength modrm
  else if 0xA0 ≤ n ∧ n < 0xA4 then 3
  else if 0xB0 ≤ n ∧ n < 0xB8 then 2
  else if 0xB8 ≤ n ∧ n < 0xC0 then 3
  else if n = 0xEB then 2
  else 1

/-! ### Packed decimal -/

/-- Both nibbles are decimal digits. -/
def ValidBcd (b : Byte) : Prop := b.toNat % 16 < 10 ∧ b.toNat / 16 < 10

/-- The number a packed decimal byte stands for. -/
def bcdValue (b : Byte) : Nat := b.toNat / 16 * 10 + b.toNat % 16

/-- The DAA and DAS sequence in integers: `lo` and `hi` are what the two steps add modulo 2^8 (R314, R315). -/
def DecimalEffect (lo hi : Nat) (s t : State) : Prop :=
  let al := (s.get8 .al).toNat
  let fired := 9 < al % 16 ∨ s.flags.AF = true
  ∃ mid : Nat, (fired → mid = (al + lo) % 256) ∧ (¬ fired → mid = al) ∧
    let fired2 := 0x9F < mid ∨ s.flags.CF = true
    (fired2 → (t.get8 .al).toNat = (mid + hi) % 256) ∧ (¬ fired2 → (t.get8 .al).toNat = mid) ∧
    (t.flags.AF = true ↔ fired) ∧ (t.flags.CF = true ↔ fired2)

/-! ### State the behaviour may not depend on -/

/-- TF, IF and DF replaced. -/
def withControlFlags (tf ifl df : Bool) (s : State) : State :=
  { s with flags := { s.flags with TF := tf, IF := ifl, DF := df } }

/-- The transient fields no later instruction reads are cleared: `mod`, `reg`, `rm`, `off`, `ea`, `rep`, and `seg` when no
override is pending (R34, R35, R37, R443). -/
def forget (s : State) : State :=
  { s with
    tr := { s.tr with
      mod := 0#2, reg := 0#3, rm := 0#3, off := 0#16, ea := 0#20, rep := .none,
      seg := if s.tr.segOverride then s.tr.seg else 0#16 } }

/-- When each condition holds (R378). -/
def Taken (c : Cond) (f : Flags) : Prop :=
  match c with
  | .jo => f.OF = true
  | .jno => f.OF = false
  | .jb => f.CF = true
  | .jnb => f.CF = false
  | .jz => f.ZF = true
  | .jnz => f.ZF = false
  | .jbe => f.CF = true ∨ f.ZF = true
  | .ja => f.CF = false ∧ f.ZF = false
  | .js => f.SF = true
  | .jns => f.SF = false
  | .jpe => f.PF = true
  | .jpo => f.PF = false
  | .jl => f.SF ≠ f.OF
  | .jge => f.SF = f.OF
  | .jle => f.ZF = true ∨ f.SF ≠ f.OF
  | .jg => f.ZF = false ∧ f.SF = f.OF

/-- What the conditions decide after a comparison of `a` with `b` (R143, R378). -/
def ComparisonDecides {w : Nat} (a b : BitVec w) (f : Flags) : Prop :=
  (Taken .jz f ↔ a = b) ∧ (Taken .jnz f ↔ a ≠ b) ∧
  (Taken .jb f ↔ a.toNat < b.toNat) ∧ (Taken .jnb f ↔ b.toNat ≤ a.toNat) ∧
  (Taken .jbe f ↔ a.toNat ≤ b.toNat) ∧ (Taken .ja f ↔ b.toNat < a.toNat) ∧
  (Taken .jl f ↔ a.toInt < b.toInt) ∧ (Taken .jge f ↔ b.toInt ≤ a.toInt) ∧
  (Taken .jle f ↔ a.toInt ≤ b.toInt) ∧ (Taken .jg f ↔ b.toInt < a.toInt)

/-- No setting of `UNDEF_SET` or `HALT_SET` replaces the entry `opcode_table.json` gives the opcode byte: it is in `HALT_SET`
exactly when it is 0xF4 and, outside `HALT_SET`, in `UNDEF_SET` exactly when it is one of the 31 of R103 (R6, R198, R200; log
6). -/
def KeepsEntry (p : Params) (op : Byte) : Prop :=
  (op ∈ p.haltSet ↔ op = 0xF4#8) ∧ (op ∉ p.haltSet → (op ∈ p.undefSet ↔ op ∈ undefinedOpcodes.map Prod.fst))

/-- The opcode byte has no meaning under the settings: it is in neither set, and it is one of the 81 of R104 or has lost the
handler of R198 or R200 it has by default (R14, R199; log 6). -/
def IsUncovered (p : Params) (op : Byte) : Prop :=
  op ∉ p.haltSet ∧ op ∉ p.undefSet ∧
  (op ∈ uncoveredOpcodes.map Prod.fst ∨ op ∈ undefinedOpcodes.map Prod.fst ∨ op = 0xF4#8)

/-- The opcode byte is a prefix under the settings: one of the six of R106 whose entry neither set replaces
(log 6). -/
def IsPrefixByte (p : Params) (op : Byte) : Prop := op ∈ prefixBytes ∧ op ∉ p.haltSet ∧ op ∉ p.undefSet

/-- The instructions that write IP themselves (R33). -/
def IsJump (i : Instr) : Prop := (∃ c d, i = jumpOn c d) ∨ ∃ d, i = .jmpRel8 d

/-- The transient fields a ModR/M byte leaves behind (R160, R162): `mod`, `reg`, `rm` always; `seg`, `off`, `ea` for a memory
operand only. -/
def RecordsModRM {R : Type} (code : R → BitVec 3) (reg : BitVec 3) (e : Operand R) (s t : State) : Prop :=
  t.tr.reg = reg ∧
  match e with
  | .reg r => t.tr.mod = 3#2 ∧ t.tr.rm = code r ∧ t.tr.seg = s.tr.seg ∧ t.tr.off = s.tr.off ∧ t.tr.ea = s.tr.ea
  | .mem a =>
    t.tr.mod = a.modCode ∧ t.tr.rm = a.rmCode ∧ t.tr.seg = memSeg s a ∧ t.tr.off = memOff s a ∧
    t.tr.ea = phys (memSeg s a) (memOff s a)

end Sys2Proof.Spec

open Sys2Proof Sys2Proof.Machine Sys2Proof.Spec

/-! ### Encoding -/

/-- R90 to R101: no bit of an encoding is dropped. Decoding the bytes of a well-formed instruction gives it back, with every
operand at every value, and leaves the bytes after it. -/
def Obligations.DecodeOfEncodeIsTheInstruction : Prop :=
  ∀ (i : Instr) (rest : List Byte), i.wf = true → decode (encode i ++ rest) = .ok (i, rest)

/-- R109, R110: each byte sequence has one reading. The bytes a decoded instruction took are its encoding, and it is well
formed. -/
def Obligations.EncodeOfDecodeIsTheBytes : Prop :=
  ∀ (bs rest : List Byte) (i : Instr), decode bs = .ok (i, rest) → i.wf = true ∧ encode i ++ rest = bs

/-- R90, R110: decoding is total. Six bytes always hold what `decode` reads as one instruction, of one to six bytes. Two of
the lengths are the model's: a prefix byte is an instruction of its own (log 9; R90 counts it as part of the one it precedes),
and an uncovered opcode, to which R102 gives no length, is its one byte (log 12). -/
def Obligations.SixBytesAlwaysDecode : Prop :=
  ∀ bs : List Byte, 6 ≤ bs.length →
    ∃ i rest, decode bs = .ok (i, rest) ∧ rest.length < bs.length ∧ bs.length ≤ rest.length + 6

/-- R102: the length of an instruction follows from its opcode byte and ModR/M byte alone, as the formats say. -/
def Obligations.LengthFollowsTheFormat : Prop :=
  ∀ (op modrm : Byte) (bs rest : List Byte) (i : Instr), op ∉ uncoveredOpcodes.map Prod.fst →
    decode (op :: modrm :: bs) = .ok (i, rest) → bs.length + 2 = rest.length + lengthByFormat op modrm

/-- R101, R103, R104, R106: the opcode byte alone decides whether the instruction is a prefix, undefined or uncovered. -/
def Obligations.OpcodeByteDecidesTheClass : Prop :=
  ∀ (op : Byte) (bs rest : List Byte) (i : Instr), decode (op :: bs) = .ok (i, rest) →
    (i.isPrefix = true ↔ op ∈ prefixBytes) ∧
    ((∃ b, (b, i) ∈ undefinedOpcodes) ↔ op ∈ Config.undefSet) ∧
    ((∃ b, (b, i) ∈ uncoveredOpcodes) ↔ op ∈ uncoveredOpcodes.map Prod.fst) ∧
    ((op, i) ∈ undefinedOpcodes ↔ op ∈ undefinedOpcodes.map Prod.fst) ∧
    ((op, i) ∈ uncoveredOpcodes ↔ op ∈ uncoveredOpcodes.map Prod.fst)

/-- R91, R92, R97 to R101: words written out from the spec's encodings decode to the instructions they stand for. -/
def Obligations.SpecWordsDecode : Prop :=
  decodeTableWord 24 0x1234B8 = some (.movAXIv 0x1234#16) ∧
  decodeTableWord 16 0xC033 = some (.xorGvEv .ax (.reg .ax)) ∧
  decodeTableWord 24 0xFF6F80 = some (.subEbIb80 (.mem (.disp8 .bx 0xFF#8)) 0x00#8) ∧
  decodeTableWord 32 0x0200161B = some (.sbbGvEv .dx (.mem (.direct 0x0200#16))) ∧
  decodeTableWord 16 0xE086 = some (.xchgEbGb .ah (.reg .al)) ∧
  decodeTableWord 16 0xFE75 = some (.jnzRel8 0xFE#8) ∧
  decodeTableWord 8 0x36 = some .prefixSS ∧ decodeTableWord 8 0x3F = some .aas ∧
  decodeTableWord 8 0x5C = some .popSP ∧ decodeTableWord 8 0xF4 = some .hlt ∧
  decodeTableWord 24 0x00F081 = some (.xorEvIv81 (.reg .ax) 0x0000#16) ∧
  decodeTableWord 8 0xCF = some .iret

/-! ### Registers, memory, flags -/

/-- R21 to R23: a register read after its write gives the value; an 8-bit write leaves every other byte of the register file;
a 16-bit write leaves every other register; each 16-bit general register AX to BX is its high byte over its low byte. -/
def Obligations.ByteRegistersAreHalvesOfWordRegisters : Prop :=
  (∀ (s : State) (r q : Reg8) (v : Byte), (s.set8 r v).get8 q = if q = r then v else s.get8 q) ∧
  (∀ (s : State) (r : Reg8) (v : Byte) (q : Reg16), q ≠ home r → (s.set8 r v).get16 q = s.get16 q) ∧
  (∀ (s : State) (r q : Reg16) (v : Word), (s.set16 r v).get16 q = if q = r then v else s.get16 q) ∧
  (∀ s : State, s.get16 .ax = wordOf (s.get8 .al) (s.get8 .ah) ∧ s.get16 .cx = wordOf (s.get8 .cl) (s.get8 .ch) ∧
    s.get16 .dx = wordOf (s.get8 .dl) (s.get8 .dh) ∧ s.get16 .bx = wordOf (s.get8 .bl) (s.get8 .bh))

/-- R62, R63, R70: the physical address is sixteen times the segment plus the offset, modulo 2^20, and a byte written through
one logical address is read through another exactly when the two name the same physical address. -/
def Obligations.LogicalAddressesWrapAndAlias : Prop :=
  ∀ (m : Memory) (seg off seg' off' : Word) (v : Byte),
    (phys seg off).toNat = (seg.toNat * 16 + off.toNat) % 2 ^ 20 ∧
    (m.write8 seg off v).read8 seg' off' =
      if (16 * seg.toNat + off.toNat) % 2 ^ 20 = (16 * seg'.toNat + off'.toNat) % 2 ^ 20 then v else m.read8 seg' off'

/-- R64, R65: a word is its byte at the offset and 256 times its byte at the next offset; a stored word reads back, its low
byte at the offset and its high byte at the next offset of the same segment, for every offset, the last one of the segment
among them; no other byte changes. That the high byte's offset wraps is the spec's decision D8. -/
def Obligations.WordsAreTwoBytesOfOneSegment : Prop :=
  ∀ (m : Memory) (seg off v : Word),
    (m.read16 seg off).toNat = (m.read8 seg off).toNat + 256 * (m.read8 seg (off + 1#16)).toNat ∧
    (m.write16 seg off v).read16 seg off = v ∧
    ((m.write16 seg off v).read8 seg off).toNat = v.toNat % 256 ∧
    ((m.write16 seg off v).read8 seg (BitVec.ofNat 16 ((off.toNat + 1) % 2 ^ 16))).toNat = v.toNat / 256 ∧
    ∀ a, a ≠ (phys seg off).toNat → a ≠ (phys seg (off + 1#16)).toNat → (m.write16 seg off v).read a = m.read a

/-- R27, R28: bits 1, 3, 5 and 12 to 15 of FLAGS read 1 in every state and ignore a write; each defined bit reads as it was
written and no write changes another bit. That a write to a reserved bit is ignored is the spec's decision D19. -/
def Obligations.ReservedFlagBitsReadOne : Prop :=
  ∀ (f : Flags) (k : Nat) (b : Bool), k < 16 →
    (isFlagBit k = false → f.getBit k = true ∧ f.setBit k b = f) ∧
    (isFlagBit k = true → (f.setBit k b).getBit k = b) ∧
    ∀ j, j ≠ k → (f.setBit k b).getBit j = f.getBit j

/-! ### ALU instructions -/

/-- R219 to R267, forms `Eb,Gb` and `Ev,Gv`: each of the sixteen instructions completes from every state; the result and flags
are those of R139 on the old operand values; the destination `E` holds the result, or its old value for CMP. AF = 0 after a
logical operation, under the setting `zero`, is the spec's decision D12 (log 2); AF, CF and OF of a subtraction follow its
decisions D9 to D11. -/
def Obligations.AluWithDestinationECompletes : Prop :=
  (∀ (k : AluOp) (g : Reg8) (e : Operand Reg8) (s : State), ∃ t r,
    exec (opEbGb k g e) s = .next t ∧ AluEffect s.params k (valueEb s e) (s.get8 g) s.flags.CF r t.flags ∧
    HoldsEb s t (if stores k then r else valueEb s e) e) ∧
  (∀ (k : AluOp) (g : Reg16) (e : Operand Reg16) (s : State), ∃ t r,
    exec (opEvGv k g e) s = .next t ∧ AluEffect s.params k (valueEv s e) (s.get16 g) s.flags.CF r t.flags ∧
    HoldsEv s t (if stores k then r else valueEv s e) e)

/-- R219 to R267, forms `Gb,Eb` and `Gv,Ev`: as above with the register `G` as destination and `E` as source. AF = 0 after a
logical operation, under the setting `zero`, is the spec's decision D12 (log 2); AF, CF and OF of a subtraction follow its
decisions D9 to D11. -/
def Obligations.AluWithDestinationGCompletes : Prop :=
  (∀ (k : AluOp) (g : Reg8) (e : Operand Reg8) (s : State), ∃ t r,
    exec (opGbEb k g e) s = .next t ∧ AluEffect s.params k (s.get8 g) (valueEb s e) s.flags.CF r t.flags ∧
    t.get8 g = if stores k then r else s.get8 g) ∧
  (∀ (k : AluOp) (g : Reg16) (e : Operand Reg16) (s : State), ∃ t r,
    exec (opGvEv k g e) s = .next t ∧ AluEffect s.params k (s.get16 g) (valueEv s e) s.flags.CF r t.flags ∧
    t.get16 g = if stores k then r else s.get16 g)

/-- R219 to R267, forms `AL,Ib` and `AX,Iv`. Each completes, with the accumulator as destination and the immediate as source.
AF = 0 after a logical operation, under the setting `zero`, is the spec's decision D12 (log 2); AF, CF and OF of a subtraction
follow its decisions D9 to D11. -/
def Obligations.AluWithAccumulatorCompletes : Prop :=
  (∀ (k : AluOp) (imm : Byte) (s : State), ∃ t r,
    exec (opALIb k imm) s = .next t ∧ AluEffect s.params k (s.get8 .al) imm s.flags.CF r t.flags ∧
    t.get8 .al = if stores k then r else s.get8 .al) ∧
  (∀ (k : AluOp) (imm : Word) (s : State), ∃ t r,
    exec (opAXIv k imm) s = .next t ∧ AluEffect s.params k (s.get16 .ax) imm s.flags.CF r t.flags ∧
    t.get16 .ax = if stores k then r else s.get16 .ax)

/-- R99, R269 to R301: group 1 runs the operation its `reg` field names on `E` and the immediate; 0x82 is 0x80; 0x83 takes the
sign-extended byte. AF = 0 after a logical operation, under the
setting `zero`, is the spec's decision D12 (log 2); AF, CF and OF of a subtraction follow
its decisions D9 to D11. -/
def Obligations.GroupOneCompletes : Prop :=
  (∀ (k : AluOp) (e : Operand Reg8) (imm : Byte) (s : State), ∃ t r,
    exec (group80 k e imm) s = .next t ∧ exec (group82 k e imm) s = .next t ∧
    AluEffect s.params k (valueEb s e) imm s.flags.CF r t.flags ∧ HoldsEb s t (if stores k then r else valueEb s e) e) ∧
  (∀ (k : AluOp) (e : Operand Reg16) (imm : Word) (s : State), ∃ t r,
    exec (group81 k e imm) s = .next t ∧
    AluEffect s.params k (valueEv s e) imm s.flags.CF r t.flags ∧ HoldsEv s t (if stores k then r else valueEv s e) e) ∧
  (∀ (k : AluOp) (e : Operand Reg16) (imm : Byte) (s : State), ∃ t r,
    exec (group83 k e imm) s = .next t ∧
    AluEffect s.params k (valueEv s e) (imm.signExtend 16) s.flags.CF r t.flags ∧
    HoldsEv s t (if stores k then r else valueEv s e) e)

/-- R29, R72, R169, R219, R269: the frame of the ALU instructions whose destination is `E`: forms `Eb,Gb` and `Ev,Gv`, and
group 1. Only the register `E` names, or the byte or word at its address computed from the state before, may change, and
nothing for CMP. -/
def Obligations.AluWithDestinationEFrame : Prop :=
  (∀ (k : AluOp) (g : Reg8) (e : Operand Reg8) (imm : Byte) (s t : State),
    exec (opEbGb k g e) s = .next t ∨ exec (group80 k e imm) s = .next t ∨ exec (group82 k e imm) s = .next t →
    KeepsControl s t ∧ KeepsAllButEb (stores k) s t e) ∧
  (∀ (k : AluOp) (g : Reg16) (e : Operand Reg16) (imm : Word) (b : Byte) (s t : State),
    exec (opEvGv k g e) s = .next t ∨ exec (group81 k e imm) s = .next t ∨ exec (group83 k e b) s = .next t →
    KeepsControl s t ∧ KeepsAllButEv (stores k) s t e)

/-- R29, R72, R219: the frame of the ALU instructions whose destination is a register: forms `Gb,Eb`, `Gv,Ev`, `AL,Ib`, `AX,Iv`.
Only that register may change, and nothing for CMP; no byte of memory changes. -/
def Obligations.AluWithRegisterDestinationFrame : Prop :=
  (∀ (k : AluOp) (g : Reg8) (e : Operand Reg8) (s t : State),
    exec (opGbEb k g e) s = .next t → KeepsControl s t ∧ KeepsAllButGb (stores k) s t g) ∧
  (∀ (k : AluOp) (g : Reg16) (e : Operand Reg16) (s t : State),
    exec (opGvEv k g e) s = .next t → KeepsControl s t ∧ KeepsAllButGv (stores k) s t g) ∧
  (∀ (k : AluOp) (imm : Byte) (s t : State),
    exec (opALIb k imm) s = .next t → KeepsControl s t ∧ KeepsAllButGb (stores k) s t .al) ∧
  (∀ (k : AluOp) (imm : Word) (s t : State),
    exec (opAXIv k imm) s = .next t → KeepsControl s t ∧ KeepsAllButGv (stores k) s t .ax)

/-- R140, R302, R303: TEST sets the flags of AND, discards the result, and changes no register and no byte of memory. AF = 0,
under the setting `zero`, is the spec's decision D12 (log 2). -/
def Obligations.TestCompletes : Prop :=
  (∀ (g : Reg8) (e : Operand Reg8) (s : State), ∃ t r,
    exec (.testEbGb g e) s = .next t ∧ AluEffect s.params .and (valueEb s e) (s.get8 g) s.flags.CF r t.flags ∧
    KeepsControl s t ∧ KeepsRegs s t ∧ KeepsMemory s t ∧ t.ip = s.ip) ∧
  (∀ (g : Reg16) (e : Operand Reg16) (s : State), ∃ t r,
    exec (.testEvGv g e) s = .next t ∧ AluEffect s.params .and (valueEv s e) (s.get16 g) s.flags.CF r t.flags ∧
    KeepsControl s t ∧ KeepsRegs s t ∧ KeepsMemory s t ∧ t.ip = s.ip)

/-- R143, R378: after a comparison in any form, the jump conditions decide equality and the unsigned and signed orders of the
compared values. -/
def Obligations.ComparisonDecidesTheJumps : Prop :=
  (∀ (g : Reg8) (e : Operand Reg8) (imm : Byte) (s t : State),
    (exec (.cmpEbGb g e) s = .next t → ComparisonDecides (valueEb s e) (s.get8 g) t.flags) ∧
    (exec (.cmpGbEb g e) s = .next t → ComparisonDecides (s.get8 g) (valueEb s e) t.flags) ∧
    (exec (.cmpALIb imm) s = .next t → ComparisonDecides (s.get8 .al) imm t.flags) ∧
    (exec (.cmpEbIb80 e imm) s = .next t ∨ exec (.cmpEbIb82 e imm) s = .next t →
      ComparisonDecides (valueEb s e) imm t.flags)) ∧
  (∀ (g : Reg16) (e : Operand Reg16) (imm : Word) (b : Byte) (s t : State),
    (exec (.cmpEvGv g e) s = .next t → ComparisonDecides (valueEv s e) (s.get16 g) t.flags) ∧
    (exec (.cmpGvEv g e) s = .next t → ComparisonDecides (s.get16 g) (valueEv s e) t.flags) ∧
    (exec (.cmpAXIv imm) s = .next t → ComparisonDecides (s.get16 .ax) imm t.flags) ∧
    (exec (.cmpEvIv81 e imm) s = .next t → ComparisonDecides (valueEv s e) imm t.flags) ∧
    (exec (.cmpEvIb83 e b) s = .next t → ComparisonDecides (valueEv s e) (b.signExtend 16) t.flags))

/-- R160, R162, R269: every instruction with a ModR/M byte leaves its fields, and the segment, offset and physical address of
its memory operand, in the transient state. -/
def Obligations.ModRMFieldsAreRecorded : Prop :=
  (∀ (k : AluOp) (g : Reg8) (e : Operand Reg8) (imm : Byte) (s t : State),
    (exec (opEbGb k g e) s = .next t ∨ exec (opGbEb k g e) s = .next t ∨ exec (.testEbGb g e) s = .next t ∨
      exec (.xchgEbGb g e) s = .next t → RecordsModRM Reg8.code g.code e s t) ∧
    (exec (group80 k e imm) s = .next t ∨ exec (group82 k e imm) s = .next t →
      RecordsModRM Reg8.code (groupReg k) e s t)) ∧
  (∀ (k : AluOp) (g : Reg16) (e : Operand Reg16) (imm : Word) (b : Byte) (s t : State),
    (exec (opEvGv k g e) s = .next t ∨ exec (opGvEv k g e) s = .next t ∨ exec (.testEvGv g e) s = .next t ∨
      exec (.xchgEvGv g e) s = .next t → RecordsModRM Reg16.code g.code e s t) ∧
    (exec (group81 k e imm) s = .next t ∨ exec (group83 k e b) s = .next t →
      RecordsModRM Reg16.code (groupReg k) e s t))

/-! ### INC, DEC, BCD -/

/-- R141, R310, R311: INC adds one and DEC subtracts one modulo 2^16; both write OF, SF, ZF, AF and PF and leave CF, every other
register and memory. -/
def Obligations.IncrementAndDecrementComplete : Prop :=
  ∀ (r : Reg16) (s : State), ∃ t u, exec (incReg16 r) s = .next t ∧ exec (decReg16 r) s = .next u ∧
    (t.get16 r).toNat = ((s.get16 r).toNat + 1) % 2 ^ 16 ∧
    (t.flags.OF = true ↔ (s.get16 r).toNat = 0x7FFF) ∧ (t.flags.AF = true ↔ (s.get16 r).toNat % 16 = 15) ∧
    (u.get16 r).toNat = ((s.get16 r).toNat + (2 ^ 16 - 1)) % 2 ^ 16 ∧
    (u.flags.OF = true ↔ (s.get16 r).toNat = 0x8000) ∧ (u.flags.AF = true ↔ (s.get16 r).toNat % 16 = 0) ∧
    ∀ v, v = t ∨ v = u →
      v.flags.CF = s.flags.CF ∧ ResultFlags (v.get16 r) v.flags ∧ KeepsControl s v ∧ KeepsRegsBut r s v ∧
      KeepsMemory s v ∧ v.ip = s.ip

/-- R313 to R315: DAA adds 6 and 0x60, DAS subtracts them, each on its test; AF and CF say which fired, ZF, SF and PF follow
the final AL, and every other register and memory are left. OF is left under the default setting of `BCD_SIDE_FLAGS` and free
under `any`. ZF, SF, PF and OF are the spec's decision D13 (log 3), the literal sequence its decision D24 (log 8). -/
def Obligations.DecimalAdjustCompletes : Prop :=
  ∀ s : State, ∃ t u, exec .daa s = .next t ∧ exec .das s = .next u ∧
    DecimalEffect 6 0x60 s t ∧ DecimalEffect (256 - 6) (256 - 0x60) s u ∧
    ∀ v, v = t ∨ v = u →
      ResultFlags (v.get8 .al) v.flags ∧ (s.params.bcdSideFlags = .asRules → v.flags.OF = s.flags.OF) ∧
      KeepsControl s v ∧ KeepsRegsButByte .al s v ∧ KeepsMemory s v ∧ v.ip = s.ip

/-- R313, R316, R317: AAA and AAS in integers: AL keeps its low nibble, AH moves by one when the adjustment fires, AF and CF
say whether it fired, and every other register and memory are left. ZF, SF, PF and OF are left under the default setting of
`BCD_SIDE_FLAGS` and free under `any`. The sequence is the spec's decision D25, the flags beside AF and CF its decision D13 (log
3). -/
def Obligations.AsciiAdjustCompletes : Prop :=
  ∀ s : State, ∃ t u, exec .aaa s = .next t ∧ exec .aas s = .next u ∧
    (let al := (s.get8 .al).toNat
     let ah := (s.get8 .ah).toNat
     let fired := 9 < al % 16 ∨ s.flags.AF = true
     (fired → (t.get8 .al).toNat = (al + 6) % 16 ∧ (t.get8 .ah).toNat = (ah + 1) % 256 ∧
       (u.get8 .al).toNat = (al + 10) % 16 ∧ (u.get8 .ah).toNat = (ah + 255) % 256) ∧
     (¬ fired → (t.get8 .al).toNat = al % 16 ∧ (t.get8 .ah).toNat = ah ∧
       (u.get8 .al).toNat = al % 16 ∧ (u.get8 .ah).toNat = ah) ∧
     ∀ v, v = t ∨ v = u →
       (v.flags.AF = true ↔ fired) ∧ (v.flags.CF = true ↔ fired) ∧
       (s.params.bcdSideFlags = .asRules → v.flags.ZF = s.flags.ZF ∧ v.flags.SF = s.flags.SF ∧
         v.flags.PF = s.flags.PF ∧ v.flags.OF = s.flags.OF) ∧
       KeepsControl s v ∧ KeepsRegsBut .ax s v ∧ KeepsMemory s v ∧ v.ip = s.ip)

/-- R224, R314: DAA after ADD AL,Ib of two packed decimal bytes gives the packed decimal sum, with the hundreds in CF, unless
the binary sum lies in 0xFA to 0xFF (where the first step of R314 wraps and its carry is lost). It rests on the literal
sequence, the spec's decision D24 (log 8). -/
def Obligations.DaaCorrectsDecimalSums : Prop :=
  ∀ (s t u : State) (b : Byte), ValidBcd (s.get8 .al) → ValidBcd b → (s.get8 .al).toNat + b.toNat ∉ List.range' 0xFA 6 →
    exec (.addALIb b) s = .next t → exec .daa t = .next u →
    ValidBcd (u.get8 .al) ∧ bcdValue (u.get8 .al) = (bcdValue (s.get8 .al) + bcdValue b) % 100 ∧
    (u.flags.CF = true ↔ 100 ≤ bcdValue (s.get8 .al) + bcdValue b)

/-- R314's corner-case sentence taken at its word for every two packed decimal bytes. It fails: 0x99 + 0x66 = 0xFF is such a
sum, and the sequence of R314 gives 0x05 with CF = 0 there (notes/assumptions/8.md). -/
def Obligations.DaaCorrectsEveryDecimalSum : Prop :=
  ∀ (s t u : State) (b : Byte), ValidBcd (s.get8 .al) → ValidBcd b →
    exec (.addALIb b) s = .next t → exec .daa t = .next u →
    bcdValue (u.get8 .al) = (bcdValue (s.get8 .al) + bcdValue b) % 100 ∧
    (u.flags.CF = true ↔ 100 ≤ bcdValue (s.get8 .al) + bcdValue b)

/-- R254, R315: DAS after SUB AL,Ib of two packed decimal bytes gives the packed decimal difference, with the borrow in CF. It
rests on the literal sequence, the spec's decision D24 (log 8). -/
def Obligations.DasCorrectsDecimalDifferences : Prop :=
  ∀ (s t u : State) (b : Byte), ValidBcd (s.get8 .al) → ValidBcd b →
    exec (.subALIb b) s = .next t → exec .das t = .next u →
    ValidBcd (u.get8 .al) ∧ bcdValue (u.get8 .al) = (bcdValue (s.get8 .al) + 100 - bcdValue b) % 100 ∧
    (u.flags.CF = true ↔ bcdValue (s.get8 .al) < bcdValue b)

/-! ### Data movement -/

/-- R330, R331: MOV of an immediate writes the immediate to its register and leaves flags, memory, IP and every other
register. -/
def Obligations.MoveImmediateCompletes : Prop :=
  (∀ (r : Reg8) (imm : Byte) (s : State), ∃ t, exec (movByte r imm) s = .next t ∧ t.get8 r = imm ∧
    KeepsRegsButByte r s t ∧ KeepsFlags s t ∧ KeepsControl s t ∧ KeepsMemory s t ∧ t.ip = s.ip ∧ t.tr = s.tr) ∧
  (∀ (r : Reg16) (imm : Word) (s : State), ∃ t, exec (movWord r imm) s = .next t ∧ t.get16 r = imm ∧
    KeepsRegsBut r s t ∧ KeepsFlags s t ∧ KeepsControl s t ∧ KeepsMemory s t ∧ t.ip = s.ip ∧ t.tr = s.tr)

/-- R333 to R335: the loads from a direct offset, in DS or the override's segment. -/
def Obligations.LoadDirectCompletes : Prop :=
  ∀ (ow : Word) (s : State), ∃ t u, exec (.movALMem ow) s = .next t ∧ exec (.movAXMem ow) s = .next u ∧
    (let seg := if s.tr.segOverride then s.tr.seg else s.getSeg .ds
     t.get8 .al = s.mem.read (phys seg ow).toNat ∧ KeepsRegsButByte .al s t ∧
     u.get8 .al = s.mem.read (phys seg ow).toNat ∧ u.get8 .ah = s.mem.read (phys seg (ow + 1#16)).toNat ∧
     KeepsRegsBut .ax s u ∧
     ∀ v, v = t ∨ v = u → KeepsFlags s v ∧ KeepsControl s v ∧ KeepsMemory s v ∧ v.ip = s.ip ∧
       v.tr = { s.tr with seg := seg, off := ow, ea := phys seg ow })

/-- R333, R336, R337: the stores to a direct offset, in DS or the override's segment, and no other byte. -/
def Obligations.StoreDirectCompletes : Prop :=
  ∀ (ow : Word) (s : State), ∃ t u, exec (.movMemAL ow) s = .next t ∧ exec (.movMemAX ow) s = .next u ∧
    (let seg := if s.tr.segOverride then s.tr.seg else s.getSeg .ds
     t.mem.read (phys seg ow).toNat = s.get8 .al ∧ KeepsMemoryButByte seg ow s t ∧
     u.mem.read (phys seg ow).toNat = s.get8 .al ∧ u.mem.read (phys seg (ow + 1#16)).toNat = s.get8 .ah ∧
     KeepsMemoryButWord seg ow s u ∧
     ∀ v, v = t ∨ v = u → KeepsFlags s v ∧ KeepsControl s v ∧ KeepsRegs s v ∧ v.ip = s.ip ∧
       v.tr = { s.tr with seg := seg, off := ow, ea := phys seg ow })

/-- R338 to R340: XCHG with a ModR/M operand swaps `E` and `G`, the address of `E` being the one before the exchange. It changes
no flag, no other register, and no byte of memory but those of `E`. -/
def Obligations.ExchangeCompletes : Prop :=
  (∀ (g : Reg8) (e : Operand Reg8) (s : State), ∃ t, exec (.xchgEbGb g e) s = .next t ∧
    t.get8 g = valueEb s e ∧ HoldsEb s t (s.get8 g) e ∧ KeepsFlags s t ∧ KeepsControl s t ∧ t.ip = s.ip ∧
    match e with
    | .reg r => KeepsMemory s t ∧ (∀ q : Reg8, q ≠ r → q ≠ g → t.get8 q = s.get8 q) ∧
        ∀ q : Reg16, q ≠ home r → q ≠ home g → t.get16 q = s.get16 q
    | .mem a => KeepsRegsButByte g s t ∧ KeepsMemoryButByte (memSeg s a) (memOff s a) s t) ∧
  (∀ (g : Reg16) (e : Operand Reg16) (s : State), ∃ t, exec (.xchgEvGv g e) s = .next t ∧
    t.get16 g = valueEv s e ∧ HoldsEv s t (s.get16 g) e ∧ KeepsFlags s t ∧ KeepsControl s t ∧ t.ip = s.ip ∧
    match e with
    | .reg r => KeepsMemory s t ∧ ∀ q : Reg16, q ≠ r → q ≠ g → t.get16 q = s.get16 q
    | .mem a => KeepsRegsBut g s t ∧ KeepsMemoryButWord (memSeg s a) (memOff s a) s t)

/-- R105, R342, R343: XCHG AX,r16 swaps AX and the register, and its member for AX itself, NOP, changes nothing. -/
def Obligations.ExchangeWithAXCompletes : Prop :=
  (∀ (r : Reg16) (s : State), ∃ t, exec (xchgWithAX r) s = .next t ∧ t.get16 .ax = s.get16 r ∧ t.get16 r = s.get16 .ax ∧
    (∀ q, q ≠ .ax → q ≠ r → t.get16 q = s.get16 q) ∧
    KeepsFlags s t ∧ KeepsControl s t ∧ KeepsMemory s t ∧ t.ip = s.ip ∧ t.tr = s.tr) ∧
  ∀ s : State, exec .nop s = .next s

/-- R341: two identical XCHG instructions restore every register and every byte, when the address registers of a memory operand
are not themselves exchanged. -/
def Obligations.ExchangeTwiceRestores : Prop :=
  (∀ (g : Reg8) (e : Operand Reg8) (s t u : State), exec (.xchgEbGb g e) s = .next t → exec (.xchgEbGb g e) t = .next u →
    (∀ a, e = .mem a → memOff t a = memOff s a) → KeepsRegs s u ∧ KeepsMemory s u) ∧
  (∀ (g : Reg16) (e : Operand Reg16) (s t u : State), exec (.xchgEvGv g e) s = .next t → exec (.xchgEvGv g e) t = .next u →
    (∀ a, e = .mem a → memOff t a = memOff s a) → KeepsRegs s u ∧ KeepsMemory s u) ∧
  (∀ (r : Reg16) (s t u : State), exec (xchgWithAX r) s = .next t → exec (xchgWithAX r) t = .next u →
    KeepsRegs s u ∧ KeepsMemory s u)

/-- R204, R344: PUSH reads its register, moves SP down by two modulo 2^16 and stores the word at SS:SP, low byte first,
whatever override is pending; PUSH SP stores the old SP. Nothing else changes. The place of the stack and the value PUSH SP
stores are the spec's decisions D15 and D14. -/
def Obligations.PushCompletes : Prop :=
  ∀ (r : Reg16) (s : State), ∃ t, exec (pushReg16 r) s = .next t ∧
    (let top := s.get16 .sp - 2#16
     t.get16 .sp = top ∧ KeepsRegsBut .sp s t ∧
     (t.mem.read (phys (s.getSeg .ss) top).toNat).toNat = (s.get16 r).toNat % 256 ∧
     (t.mem.read (phys (s.getSeg .ss) (top + 1#16)).toNat).toNat = (s.get16 r).toNat / 256 ∧
     KeepsMemoryButWord (s.getSeg .ss) top s t) ∧
    KeepsFlags s t ∧ KeepsControl s t ∧ t.ip = s.ip ∧ t.tr = s.tr

/-- R204, R345: POP reads the word at SS:SP, moves SP up by two modulo 2^16 and writes its register last, so POP SP leaves the
popped word. Memory and everything else are left. The place of the stack and what POP SP leaves are the spec's decisions D15
and D14. -/
def Obligations.PopCompletes : Prop :=
  ∀ (r : Reg16) (s : State), ∃ t, exec (popReg16 r) s = .next t ∧
    t.get16 r = s.read16 (s.getSeg .ss) (s.get16 .sp) ∧ (r ≠ .sp → t.get16 .sp = s.get16 .sp + 2#16) ∧
    (∀ q, q ≠ r → q ≠ .sp → t.get16 q = s.get16 q) ∧
    KeepsFlags s t ∧ KeepsControl s t ∧ KeepsMemory s t ∧ t.ip = s.ip ∧ t.tr = s.tr

/-- R346: PUSH r then POP r restores every register, SP among them, for every r and every SP; PUSH a then POP b copies a into
b. It rests on the spec's decisions D14 and D15. -/
def Obligations.PushThenPopIsTheIdentity : Prop :=
  ∀ (a b : Reg16) (s t u : State), exec (pushReg16 a) s = .next t → exec (popReg16 b) t = .next u →
    u.get16 b = s.get16 a ∧ (∀ q, q ≠ b → u.get16 q = s.get16 q) ∧ (a = b → KeepsRegs s u)

/-! ### Control transfer -/

/-- R360 to R378: a conditional jump adds its signed displacement to the IP after it, modulo 2^16, exactly when its condition
holds, and JMP always does; nothing else changes. -/
def Obligations.JumpsComplete : Prop :=
  (∀ (c : Cond) (d : Byte) (s : State), ∃ t, exec (jumpOn c d) s = .next t ∧
    (Taken c s.flags → (t.ip.toNat : Int) = ((s.ip.toNat : Int) + d.toInt) % 2 ^ 16) ∧
    (¬ Taken c s.flags → t.ip = s.ip) ∧ t = { s with ip := t.ip }) ∧
  (∀ (d : Byte) (s : State), ∃ t, exec (.jmpRel8 d) s = .next t ∧
    (t.ip.toNat : Int) = ((s.ip.toNat : Int) + d.toInt) % 2 ^ 16 ∧ t = { s with ip := t.ip })

/-! ### Dispatch core -/

/-- R193, R195, R204: a segment prefix latches its register's value and marks it, so that every memory operand's segment
becomes that value; a repeat prefix writes `rep`; nothing else changes. The repeat prefixes and what an override redirects are
the spec's decisions D5 and D7. -/
def Obligations.PrefixesComplete : Prop :=
  (∀ (r : SegReg) (s : State), ∃ t, exec (overrideBy r) s = .next t ∧
    t = { s with tr := { s.tr with seg := s.getSeg r, segOverride := true } } ∧
    ∀ a, memSeg t a = s.getSeg r ∧ memOff t a = memOff s a) ∧
  (∀ s : State, exec .repne s = .next { s with tr := { s.tr with rep := .repne } } ∧
    exec .rep s = .next { s with tr := { s.tr with rep := .repe } })

/-- R103, R198: the handler of each of the 31 undefined opcodes changes no register, flag, memory byte or transient field. Which
bytes they are by default is the spec's decision D3 (log 6). -/
def Obligations.UndefinedOpcodesAreNoOps : Prop :=
  ∀ (b : Byte) (i : Instr) (s : State), (b, i) ∈ undefinedOpcodes → exec i s = .next s

/-- R200: the handler of HLT sets the halt bit and nothing else. The halt condition is the spec's decision D4 (log 17). -/
def Obligations.HaltCompletes : Prop :=
  ∀ s : State, exec .hlt s = .next { s with halted := true }

/-- R104, R199: each of the 81 uncovered opcodes is refused with its byte, CS and the IP of the byte. The refusal is the
spec's decision D2 (log 4). -/
def Obligations.UncoveredOpcodesAreRefused : Prop :=
  ∀ (b : Byte) (i : Instr) (s : State), (b, i) ∈ uncoveredOpcodes →
    exec i s = .refused (.uncoveredOpcode b (s.getSeg .cs) (s.ip - 1#16))

/-- R190, R191: while the loop runs, and unless a setting replaces the entry of the byte at CS:IP, a step is the meaning of the
instruction there, run with IP past its bytes; then a non-prefix instruction consumes one quantum and ends the prefixes, and a
prefix does neither. The grain of a step and the look at six bytes are the model's (logs 9 and 10), and so is which entries a
setting replaces (log 6). -/
def Obligations.StepRunsTheDecodedInstruction : Prop :=
  ∀ (s : State) (i : Instr) (rest : List Byte), s.budget ≠ 0 → s.halted = false →
    KeepsEntry s.params (s.read8 (s.getSeg .cs) s.ip) →
    decode (s.mem.fetch (s.getSeg .cs) s.ip 6) = .ok (i, rest) →
    step s = match exec i { s with ip := s.ip + BitVec.ofNat 16 (6 - rest.length) } with
      | .next t =>
        if i.isPrefix then .next t
        else .next { t with tr := { t.tr with segOverride := false, rep := .none }, budget := t.budget - 1 }
      | .fault r => .fault r
      | .refused r => .refused r

/-- R190, R200, R201: with the budget spent, or halted, nothing runs. That such a step holds the state is the model's choice
(log 9). -/
def Obligations.NoWorkWithoutBudgetOrWhenHalted : Prop :=
  ∀ s : State, s.budget = 0 ∨ s.halted = true → step s = .next s

/-- R192, R194, R197: under every setting a step at a non-prefix opcode consumes exactly one quantum and ends the prefixes, a
step at a prefix consumes none, and the block is halted after a step exactly when the opcode is in `HALT_SET`. The lifetime of
a prefix and the halt condition are the spec's decisions D6 and D4; that a prefix is a step is the model's choice
(log 9), and so is that a byte in one of the sets is no prefix (log 6). -/
def Obligations.BudgetCountsNonPrefixInstructions : Prop :=
  ∀ s t : State, s.idle = false → step s = .next t →
    (IsPrefixByte s.params (s.read8 (s.getSeg .cs) s.ip) → t.budget = s.budget) ∧
    (¬ IsPrefixByte s.params (s.read8 (s.getSeg .cs) s.ip) →
      t.budget + 1 = s.budget ∧ t.tr.segOverride = false ∧ t.tr.rep = .none) ∧
    (t.halted = true ↔ s.read8 (s.getSeg .cs) s.ip ∈ s.params.haltSet)

/-- R199, R202, R417: under every setting a step of the running loop has two outcomes and no third. It answers a next state,
unless the byte at CS:IP is uncovered; then it refuses with that byte, CS and IP. The refusal is the spec's decision D2 (log 4).
That there is no third outcome rests on the model's grain of a step, a prefix byte being one of its own (log 9), its look at six
bytes (log 10), and the one byte it gives an uncovered opcode (log 12), so that `truncatedFetch` is never raised; which bytes a
setting leaves uncovered is log 6. -/
def Obligations.StepStopsOnlyOnUncoveredOpcodes : Prop :=
  ∀ s : State, s.idle = false →
    (¬ IsUncovered s.params (s.read8 (s.getSeg .cs) s.ip) ∧ ∃ t, step s = .next t) ∨
    (IsUncovered s.params (s.read8 (s.getSeg .cs) s.ip) ∧
      step s = .refused (.uncoveredOpcode (s.read8 (s.getSeg .cs) s.ip) (s.getSeg .cs) s.ip))

/-- The model's own test door (log 7), no rule of the spec: `withFetchWord` places an instruction where the next step fetches
it, and that step runs it, unless a setting replaces the entry of its opcode byte (log 6). -/
def Obligations.PlacedInstructionIsTheOneRun : Prop :=
  ∀ (s : State) (nbits w : Nat) (i : Instr), decodeTableWord nbits w = some i →
    (∀ (op : Byte) (bs : List Byte), encode i = op :: bs → KeepsEntry s.params op) →
    ∃ n, 1 ≤ n ∧ n ≤ 6 ∧ step (s.withFetchWord nbits w) = runInstr i n (s.withFetchWord nbits w)

/-! ### Whole-machine rules -/

/-- R26, R31, R379, R421: no step changes a segment register, TF, IF or DF, nor the parameters, which are no state of the block
(log 21). -/
def Obligations.NoStepWritesSegmentsOrControlFlags : Prop :=
  ∀ s t : State, step s = .next t →
    t.sregs = s.sregs ∧ t.flags.TF = s.flags.TF ∧ t.flags.IF = s.flags.IF ∧ t.flags.DF = s.flags.DF ∧
    t.params = s.params

/-- R33: apart from the relative jumps, a step moves IP past the bytes of its instruction and nowhere else; at a byte whose
entry a setting replaces, past that one byte (log 6). -/
def Obligations.OnlyJumpsWriteIP : Prop :=
  (∀ (s t : State) (i : Instr) (rest : List Byte), s.idle = false → decode s.fetchWindow = .ok (i, rest) → ¬ IsJump i →
    KeepsEntry s.params (s.read8 (s.getSeg .cs) s.ip) → step s = .next t →
    t.ip = s.ip + BitVec.ofNat 16 (6 - rest.length)) ∧
  ∀ s t : State, s.idle = false → ¬ KeepsEntry s.params (s.read8 (s.getSeg .cs) s.ip) → step s = .next t →
    t.ip = s.ip + 1#16

/-- R31, R425: TF, IF and DF have no effect. Runs of any number of steps that differ in them alone stay equal in all else.
That the bits are stored and ignored is the spec's decision D21. -/
def Obligations.ControlFlagsHaveNoEffect : Prop :=
  ∀ (k : Nat) (s : State) (tf ifl df : Bool),
    runSteps k (withControlFlags tf ifl df s) = mapNext (withControlFlags tf ifl df) (runSteps k s)

/-- R34, R167, R195, R443: stale decode state is never read. A step's outcome, but for those fields themselves, is the same
whatever `mod`, `reg`, `rm`, `off`, `ea`, `rep` hold, and `seg` when no override is pending. -/
def Obligations.StaleDecodeStateIsNeverRead : Prop :=
  ∀ s : State, mapNext forget (step (forget s)) = mapNext forget (step s)

/-- R196, R452: when every byte of the code segment is a prefix, the loop never returns: the run goes on for any number of
steps, each answering a running state with the budget unchanged. R452 lets a model represent the hang as divergence or as a
stuck state; that it is divergence here is the model's choice (log 16), and so is a prefix being a step (log 9). -/
def Obligations.PrefixStreamNeverReturns : Prop :=
  ∀ s : State, s.budget ≠ 0 → s.halted = false →
    (∀ off : Word, IsPrefixByte s.params (s.read8 (s.getSeg .cs) off)) →
    ∀ k, ∃ t, runSteps k s = .next t ∧ t.idle = false ∧ t.budget = s.budget

/-- R197, R201, R455: a call that returned because its budget ran out, followed by a call with budget `m`, ends where one call
with the sum of the budgets ends. A step is one iteration (log 9). -/
def Obligations.ExecuteResumes : Prop :=
  ∀ (n m : Nat) (s t u : State), Executes n s t → t.halted = false → Executes m t u → Executes (n + m) s u

/-! ### Invariants -/

/-- R35, R193, R197: every step keeps the invariant of a state between two iterations: memory in canonical form, no prefix
pending while the block is idle, and a pending override holding a segment register's value. The canonical form of memory is the
model's (log 1). -/
def Obligations.StepKeepsGoodStates : Prop :=
  ∀ s t : State, s.Good → step s = .next t → t.Good

/-- R41: the state after reset meets the invariant of `State.Good`. The canonical form of memory is the model's (log 1). -/
def Obligations.ResetIsGood : Prop := State.reset.Good

/-- R45 to R47, R440: every action of the host keeps the invariant of `State.Good`. The form of the host port is the model's
(logs 13 to 15), and so is its unit of one byte (log 22). -/
def Obligations.HostActionsKeepGoodStates : Prop :=
  ∀ (a : HostAction) (s t : State), s.Good → hostAct a s = .next t → t.Good

/-- R197, R440: every state that the block and its host bring about from a reset, with any setting, seed and RAM, meets the
invariant of `State.Good`; it is the corollary of `StepKeepsGoodStates` and `HostActionsKeepGoodStates`. When the block is
idle in such a state, no prefix is pending (R197). The canonical form of memory is the model's (log 1), and so is the form of
the host port: its image (log 13), its unit of one byte (log 22), its turn (log 14) and its reset (log 15). -/
def Obligations.ReachableStatesAreGood : Prop := ∀ s : State, Reachable s → s.Good

/-! ### Reset and the host port -/

/-- R41: after reset with any settings, seed and RAM, every register is zero, FLAGS reads 0xF02A, IP is the seed, RAM is the
image the host loaded, no prefix is pending, the budget is zero and the block is not halted; with the default parameters IP is
zero. The values of `seg_override`, `rep`, `budget` and `halted` are the spec's decisions D16 and D4; the default RAM is log
1, and that the settings stand in the state is log 21. -/
def Obligations.ResetLeavesZeroRegisters : Prop :=
  (∀ (p : Params) (seed : Word) (ram : Memory) (s : State), s = State.resetWith p seed ram →
    (∀ r, s.get16 r = 0#16) ∧ (∀ r, s.get8 r = 0#8) ∧ (∀ r, s.getSeg r = 0#16) ∧ s.flags.word = 0xF02A#16 ∧
    s.ip = seed ∧ s.mem = ram ∧ s.tr.segOverride = false ∧ s.tr.rep = .none ∧ s.budget = 0 ∧ s.halted = false ∧
    s.params = p) ∧
  State.reset = State.resetWith Config.params 0x0000#16 Config.ramInit

/-- R440 to R443: a reset by the host clears the halt bit and the registers, sets IP to the seed and leaves RAM and the
settings. That the action needs an idle block is log 15. -/
def Obligations.HostResetKeepsRam : Prop :=
  ∀ (s : State) (seed : Word), s.idle = true → ∃ t, hostAct (.reset seed) s = .next t ∧ t.halted = false ∧ t.ip = seed ∧
    t.budget = 0 ∧ (∀ r, t.get16 r = 0#16) ∧ (∀ r, t.getSeg r = 0#16) ∧ t.flags.word = 0xF02A#16 ∧ KeepsMemory s t ∧
    t.params = s.params

/-- R28, R45 to R47: between two calls of `execute` a byte written at an offset of the host image reads back, a reserved flag
slot reads 1, and every other offset of the image reads as before; IP does not change. A byte other than 0 or 1 for a defined
flag slot is refused. What a flag slot does with other bytes is log 13; that one move of the host writes one byte, of a segment
register too, is the model's choice (log 22). -/
def Obligations.HostImageReadsBack : Prop :=
  (∀ (s : State) (o : Nat) (b : Byte), s.idle = true → o < 1048616 →
    (24 ≤ o → o < 40 → o ∉ [25, 27, 29, 36, 37, 38, 39] → b = 0#8 ∨ b = 1#8) →
    ∃ t, hostAct (.write o b) s = .next t ∧ t.ip = s.ip ∧ t.idle = true ∧
      hostRead t o = some (if o ∈ [25, 27, 29, 36, 37, 38, 39] then 1#8 else b) ∧
      ∀ p, p < 1048616 → p ≠ o → hostRead t p = hostRead s p) ∧
  ∀ (s : State) (k : Nat) (b : Byte), s.idle = true → k ∈ [0, 2, 4, 6, 7, 8, 9, 10, 11] → b ≠ 0#8 → b ≠ 1#8 →
    hostAct (.write (24 + k) b) s = .refused (.hostFlagByte k b)

/-- R46: where the host image keeps each register, flag and byte of RAM. -/
def Obligations.HostImageLayout : Prop :=
  ∀ s : State, s.idle = true →
    (∀ r : Reg16, hostRead s (2 * r.code.toNat) = some (lowByte (s.get16 r)) ∧
      hostRead s (2 * r.code.toNat + 1) = some (highByte (s.get16 r))) ∧
    (hostRead s 16 = some (lowByte (s.getSeg .es)) ∧ hostRead s 17 = some (highByte (s.getSeg .es)) ∧
     hostRead s 18 = some (lowByte (s.getSeg .cs)) ∧ hostRead s 19 = some (highByte (s.getSeg .cs)) ∧
     hostRead s 20 = some (lowByte (s.getSeg .ss)) ∧ hostRead s 21 = some (highByte (s.getSeg .ss)) ∧
     hostRead s 22 = some (lowByte (s.getSeg .ds)) ∧ hostRead s 23 = some (highByte (s.getSeg .ds))) ∧
    (∀ k, k < 16 → hostRead s (24 + k) = some (flagByte (s.flags.word.getLsbD k))) ∧
    (∀ a, a < 2 ^ 20 → hostRead s (40 + a) = some (s.mem.read a))

/-- R45, R48: while `execute` runs the host has no move and sees nothing. The form of the refusal, and that a read then
answers nothing, are the model's (log 14). -/
def Obligations.HostIsExcludedDuringExecute : Prop :=
  ∀ (s : State) (a : HostAction) (o : Nat), s.budget ≠ 0 → s.halted = false →
    hostAct a s = .refused .hostDuringExecute ∧ hostRead s o = none ∧ hostReadIP s = none

/-! ### The settings of the opcode table -/

/-- R6, R198, R200: what `UNDEF_SET` and `HALT_SET` hold decides, at every opcode byte. Under every setting a step at a byte of
`HALT_SET` is HLT and a step at any other byte of `UNDEF_SET` is the one-byte no-op, whatever instruction or prefix the byte is
by default; the default sets replace no entry. That `HALT_SET` comes before `UNDEF_SET`, and that a byte put into `HALT_SET`
loses its own entry, are the model's (log 6). -/
def Obligations.SettingsInstallHaltAndNoOp : Prop :=
  (∀ s : State, s.budget ≠ 0 → s.halted = false →
    (s.read8 (s.getSeg .cs) s.ip ∈ s.params.haltSet →
      step s = .next { s with
        ip := s.ip + 1#16, tr := { s.tr with segOverride := false, rep := .none }, budget := s.budget - 1, halted := true }) ∧
    (s.read8 (s.getSeg .cs) s.ip ∉ s.params.haltSet → s.read8 (s.getSeg .cs) s.ip ∈ s.params.undefSet →
      step s = .next { s with
        ip := s.ip + 1#16, tr := { s.tr with segOverride := false, rep := .none }, budget := s.budget - 1 })) ∧
  ∀ op : Byte, KeepsEntry State.reset.params op
end

