-- ==== Sys2Proof/Laws/Regs.lean ====
section
/-! SUPPORT. The laws of the register file (R20 to R23) and of byte and word assembly (R65). -/

namespace Sys2Proof

theorem wordOf_toNat (lo hi : Byte) : (wordOf lo hi).toNat = hi.toNat * 256 + lo.toNat := by
  have h := BitVec.toNat_append hi lo
  rw [← Nat.shiftLeft_add_eq_or_of_lt lo.isLt, Nat.shiftLeft_eq] at h
  exact h

theorem lowByte_toNat (v : Word) : (lowByte v).toNat = v.toNat % 256 := by
  simp [lowByte, BitVec.extractLsb'_toNat]

theorem highByte_toNat (v : Word) : (highByte v).toNat = v.toNat / 256 := by
  have h := v.isLt
  simp only [highByte, BitVec.extractLsb'_toNat, Nat.shiftRight_eq_div_pow]
  omega

@[simp] theorem lowByte_wordOf (lo hi : Byte) : lowByte (wordOf lo hi) = lo := by
  apply BitVec.eq_of_toNat_eq
  have := lo.isLt
  rw [lowByte_toNat, wordOf_toNat]
  omega

@[simp] theorem highByte_wordOf (lo hi : Byte) : highByte (wordOf lo hi) = hi := by
  apply BitVec.eq_of_toNat_eq
  have := lo.isLt
  rw [highByte_toNat, wordOf_toNat]
  omega

@[simp] theorem wordOf_low_high (v : Word) : wordOf (lowByte v) (highByte v) = v := by
  apply BitVec.eq_of_toNat_eq
  rw [wordOf_toNat, lowByte_toNat, highByte_toNat]
  omega

end Sys2Proof

namespace Sys2Proof.Machine

@[simp] theorem Regs.get16_set16_same (g : Regs) (r : Reg16) (v : Word) : (g.set16 r v).get16 r = v := by
  cases r <;> rfl

theorem Regs.get16_set16_other (g : Regs) {r q : Reg16} (v : Word) (h : q ≠ r) :
    (g.set16 r v).get16 q = g.get16 q := by
  cases r <;> cases q <;> first | rfl | exact absurd rfl h

theorem Regs.get16_set16 (g : Regs) (r q : Reg16) (v : Word) :
    (g.set16 r v).get16 q = if q = r then v else g.get16 q := by
  split
  · next h => rw [h, Regs.get16_set16_same]
  · next h => exact g.get16_set16_other v h

/-- Two register files that read alike are equal. -/
theorem Regs.ext_get16 {g h : Regs} (e : ∀ r, g.get16 r = h.get16 r) : g = h := by
  cases g; cases h
  simp only [Regs.mk.injEq]
  exact ⟨e .ax, e .cx, e .dx, e .bx, e .sp, e .bp, e .si, e .di⟩

@[simp] theorem Regs.get8_set8_same (g : Regs) (r : Reg8) (v : Byte) : (g.set8 r v).get8 r = v := by
  cases r <;> simp [Regs.get8, Regs.set8, home, isHigh]

theorem Regs.get8_set8_other (g : Regs) {r q : Reg8} (v : Byte) (h : q ≠ r) : (g.set8 r v).get8 q = g.get8 q := by
  cases r <;> cases q <;>
    first
    | exact absurd rfl h
    | simp [Regs.get8, Regs.set8, home, isHigh, Regs.get16_set16]

theorem Regs.get16_set8_other (g : Regs) {r : Reg8} {q : Reg16} (v : Byte) (h : q ≠ home r) :
    (g.set8 r v).get16 q = g.get16 q :=
  g.get16_set16_other _ h

/-- The 8-bit registers only see the register they are a byte of (R22). -/
theorem Regs.get8_congr {g h : Regs} {r : Reg8} (e : g.get16 (home r) = h.get16 (home r)) : g.get8 r = h.get8 r := by
  simp [Regs.get8, e]

theorem Regs.get8_set16_other (g : Regs) {r : Reg16} {q : Reg8} (v : Word) (h : home q ≠ r) :
    (g.set16 r v).get8 q = g.get8 q :=
  Regs.get8_congr (g.get16_set16_other v h)

end Sys2Proof.Machine
end

