-- ==== Sys2Proof/Laws/Decode.lean ====
section
/-! SUPPORT. The laws of the field readers and writers of the decoder and the encoder (R92 to R95, R99), from which the round
trips follow form by form. -/

namespace Sys2Proof

/-! ### Codes -/

@[simp] theorem Reg16.ofCode_code (r : Reg16) : Reg16.ofCode r.code = r := by cases r <;> rfl
@[simp] theorem Reg8.ofCode_code (r : Reg8) : Reg8.ofCode r.code = r := by cases r <;> rfl
@[simp] theorem Base.ofCode_code (b : Base) : Base.ofCode b.code = b := by cases b <;> rfl

theorem Reg16.code_ofCode (c : BitVec 3) : (Reg16.ofCode c).code = c := by revert c; decide
theorem Reg8.code_ofCode (c : BitVec 3) : (Reg8.ofCode c).code = c := by revert c; decide
theorem Base.code_ofCode (c : BitVec 3) : (Base.ofCode c).code = c := by revert c; decide

theorem Base.code_eq_six (b : Base) : b.code = 6#3 ↔ b = .bp := by cases b <;> decide

/-! ### The ModR/M byte (R92) -/

@[simp] theorem modField_modrmByte (mod : BitVec 2) (reg rm : BitVec 3) : modField (modrmByte mod reg rm) = mod := by
  revert mod reg rm; decide

@[simp] theorem regField_modrmByte (mod : BitVec 2) (reg rm : BitVec 3) : regField (modrmByte mod reg rm) = reg := by
  revert mod reg rm; decide

@[simp] theorem rmField_modrmByte (mod : BitVec 2) (reg rm : BitVec 3) : rmField (modrmByte mod reg rm) = rm := by
  revert mod reg rm; decide

@[simp] theorem modrmByte_fields (b : Byte) : modrmByte (modField b) (regField b) (rmField b) = b := by
  revert b; decide

/-! ### Reading what was written -/

@[simp] theorem takeWord_leBytes (v : Word) (rest : List Byte) : takeWord (leBytes v ++ rest) = .ok (v, rest) := by
  simp [takeWord, leBytes]

theorem takeWord_inv {bs rest : List Byte} {v : Word} (h : takeWord bs = .ok (v, rest)) : leBytes v ++ rest = bs := by
  match bs with
  | [] => simp [takeWord] at h
  | [_] => simp [takeWord] at h
  | lo :: hi :: bs =>
    simp only [takeWord, Except.ok.injEq, Prod.mk.injEq] at h
    obtain ⟨rfl, rfl⟩ := h
    simp [leBytes]

theorem takeByte_inv {bs rest : List Byte} {v : Byte} (h : takeByte bs = .ok (v, rest)) : v :: rest = bs := by
  match bs with
  | [] => simp [takeByte] at h
  | b :: bs =>
    simp only [takeByte, Except.ok.injEq, Prod.mk.injEq] at h
    obtain ⟨rfl, rfl⟩ := h
    rfl

/-- The displacement of a well-formed memory operand reads back (R93, R94). -/
theorem takeMemAddr_dispBytes (a : MemAddr) (h : a.wf = true) (rest : List Byte) :
    takeMemAddr a.modCode a.rmCode (a.dispBytes ++ rest) = .ok (a, rest) := by
  cases a with
  | base b =>
    have hb : ¬ b.code = 6#3 := by
      rw [Base.code_eq_six]; rintro rfl; simp [MemAddr.wf] at h
    simp [takeMemAddr, MemAddr.modCode, MemAddr.rmCode, MemAddr.dispBytes, hb]
  | direct w => simp [takeMemAddr, MemAddr.modCode, MemAddr.rmCode, MemAddr.dispBytes, Except.map]
  | disp8 b d => simp [takeMemAddr, MemAddr.modCode, MemAddr.rmCode, MemAddr.dispBytes, Except.map, takeByte]
  | disp16 b d => simp [takeMemAddr, MemAddr.modCode, MemAddr.rmCode, MemAddr.dispBytes, Except.map]

theorem MemAddr.modCode_ne (a : MemAddr) : a.modCode ≠ 3#2 := by cases a <;> simp [MemAddr.modCode]

/-- The ModR/M byte and displacement of a well-formed `E` operand read back beside the `reg` field (R92, R160). -/
theorem takeModRM_encodeModRM {R : Type} (ofCode : BitVec 3 → R) (code : R → BitVec 3) (hc : ∀ r, ofCode (code r) = r)
    (reg : BitVec 3) (e : Operand R) (h : e.wf = true) (rest : List Byte) :
    takeModRM ofCode (encodeModRM reg code e ++ rest) = .ok (reg, e, rest) := by
  cases e with
  | reg r =>
    simp [takeModRM, encodeModRM, takeByte, Except.bind, Operand.modCode, Operand.rmCode, Operand.dispBytes, hc]
  | mem a =>
    have := takeMemAddr_dispBytes a h rest
    simp [takeModRM, encodeModRM, takeByte, Except.bind, Operand.modCode, Operand.rmCode, Operand.dispBytes,
      a.modCode_ne, this, Except.map]

/-- What a read memory operand is: well formed, and its displacement the bytes taken (R93, R94). -/
theorem takeMemAddr_inv {mod : BitVec 2} {rm : BitVec 3} {bs rest : List Byte} {a : MemAddr} (hm : mod ≠ 3#2)
    (h : takeMemAddr mod rm bs = .ok (a, rest)) :
    a.wf = true ∧ a.modCode = mod ∧ a.rmCode = rm ∧ a.dispBytes ++ rest = bs := by
  unfold takeMemAddr at h
  split at h
  · next h0 =>
    split at h
    · next h6 =>
      cases hw : takeWord bs with
      | error e => simp [hw, Except.map] at h
      | ok p =>
        simp only [hw, Except.map, Except.ok.injEq, Prod.mk.injEq] at h
        obtain ⟨rfl, rfl⟩ := h
        exact ⟨rfl, h0.symm, h6.symm, takeWord_inv hw⟩
    · next h6 =>
      simp only [Except.ok.injEq, Prod.mk.injEq] at h
      obtain ⟨rfl, rfl⟩ := h
      refine ⟨?_, h0.symm, Base.code_ofCode rm, rfl⟩
      simp only [MemAddr.wf]
      have : Base.ofCode rm ≠ .bp := by
        rw [Ne, ← Base.code_eq_six, Base.code_ofCode]; exact h6
      cases hb : Base.ofCode rm <;> simp_all
  · next h0 =>
    split at h
    · next h1 =>
      cases hw : takeByte bs with
      | error e => simp [hw, Except.map] at h
      | ok p =>
        simp only [hw, Except.map, Except.ok.injEq, Prod.mk.injEq] at h
        obtain ⟨rfl, rfl⟩ := h
        exact ⟨rfl, h1.symm, Base.code_ofCode rm, takeByte_inv hw⟩
    · next h1 =>
      cases hw : takeWord bs with
      | error e => simp [hw, Except.map] at h
      | ok p =>
        simp only [hw, Except.map, Except.ok.injEq, Prod.mk.injEq] at h
        obtain ⟨rfl, rfl⟩ := h
        refine ⟨rfl, ?_, Base.code_ofCode rm, takeWord_inv hw⟩
        show 2#2 = mod
        revert hm h0 h1
        revert mod
        decide

/-- What a read ModR/M byte and operand are (R92, R160). -/
theorem takeModRM_inv {R : Type} {ofCode : BitVec 3 → R} {code : R → BitVec 3} (hc : ∀ c, code (ofCode c) = c)
    {bs rest : List Byte} {reg : BitVec 3} {e : Operand R} (h : takeModRM ofCode bs = .ok (reg, e, rest)) :
    e.wf = true ∧ encodeModRM reg code e ++ rest = bs := by
  unfold takeModRM at h
  cases hb : takeByte bs with
  | error e => simp [hb, Except.bind] at h
  | ok p =>
    obtain ⟨b, bs'⟩ := p
    have hbs := takeByte_inv hb
    simp only [hb, Except.bind] at h
    split at h
    · next h3 =>
      simp only [Except.ok.injEq, Prod.mk.injEq] at h
      obtain ⟨rfl, rfl, rfl⟩ := h
      refine ⟨rfl, ?_⟩
      rw [← hbs, ← modrmByte_fields b]
      simp [encodeModRM, Operand.modCode, Operand.rmCode, Operand.dispBytes, h3, hc]
    · next h3 =>
      cases hm : takeMemAddr (modField b) (rmField b) bs' with
      | error e => simp [hm, Except.map] at h
      | ok q =>
        obtain ⟨a, r⟩ := q
        simp only [hm, Except.map, Except.ok.injEq, Prod.mk.injEq] at h
        obtain ⟨rfl, rfl, rfl⟩ := h
        obtain ⟨hw, h1, h2, h4⟩ := takeMemAddr_inv h3 hm
        refine ⟨hw, ?_⟩
        rw [← hbs, ← h4]
        simp [encodeModRM, Operand.modCode, Operand.rmCode, Operand.dispBytes, h1, h2]

/-! ### The forms (R91): reading the fields that were written -/

theorem decode_cons (op : Byte) (bs : List Byte) : decode (op :: bs) = (formOf op).read bs := rfl

theorem Form.read_imm16 (mk : Word → Instr) (v : Word) (rest : List Byte) :
    (Form.imm16 mk).read (leBytes v ++ rest) = .ok (mk v, rest) := by
  simp [Form.read, Except.map]

theorem Form.read_mrByte (mk : Reg8 → Operand Reg8 → Instr) (g : Reg8) (e : Operand Reg8) (h : e.wf = true)
    (rest : List Byte) : (Form.mrByte mk).read (encodeModRM g.code Reg8.code e ++ rest) = .ok (mk g e, rest) := by
  simp [Form.read, takeModRM_encodeModRM Reg8.ofCode Reg8.code Reg8.ofCode_code _ e h, Except.map]

theorem Form.read_mrWord (mk : Reg16 → Operand Reg16 → Instr) (g : Reg16) (e : Operand Reg16) (h : e.wf = true)
    (rest : List Byte) : (Form.mrWord mk).read (encodeModRM g.code Reg16.code e ++ rest) = .ok (mk g e, rest) := by
  simp [Form.read, takeModRM_encodeModRM Reg16.ofCode Reg16.code Reg16.ofCode_code _ e h, Except.map]

theorem Form.read_miByte (mk : AluOp → Operand Reg8 → Byte → Instr) (k : BitVec 3) (e : Operand Reg8) (v : Byte)
    (h : e.wf = true) (rest : List Byte) :
    (Form.miByte mk).read ((encodeModRM k Reg8.code e ++ [v]) ++ rest) = .ok (mk (AluOp.ofCode k) e v, rest) := by
  simp [Form.read, takeModRM_encodeModRM Reg8.ofCode Reg8.code Reg8.ofCode_code _ e h, Except.map, Except.bind,
    takeByte]

theorem Form.read_miWord (mk : AluOp → Operand Reg16 → Word → Instr) (k : BitVec 3) (e : Operand Reg16) (v : Word)
    (h : e.wf = true) (rest : List Byte) :
    (Form.miWord mk).read ((encodeModRM k Reg16.code e ++ leBytes v) ++ rest) = .ok (mk (AluOp.ofCode k) e v, rest) := by
  simp [Form.read, takeModRM_encodeModRM Reg16.ofCode Reg16.code Reg16.ofCode_code _ e h, Except.map, Except.bind]

theorem Form.read_miSext (mk : AluOp → Operand Reg16 → Byte → Instr) (k : BitVec 3) (e : Operand Reg16) (v : Byte)
    (h : e.wf = true) (rest : List Byte) :
    (Form.miSext mk).read ((encodeModRM k Reg16.code e ++ [v]) ++ rest) = .ok (mk (AluOp.ofCode k) e v, rest) := by
  simp [Form.read, takeModRM_encodeModRM Reg16.ofCode Reg16.code Reg16.ofCode_code _ e h, Except.map, Except.bind,
    takeByte]

/-- A ModR/M byte and its displacement are one to three bytes (R92, R93). -/
theorem encodeModRM_length {R : Type} (reg : BitVec 3) (code : R → BitVec 3) (e : Operand R) :
    1 ≤ (encodeModRM reg code e).length ∧ (encodeModRM reg code e).length ≤ 3 := by
  cases e with
  | reg r => simp [encodeModRM, Operand.dispBytes]
  | mem a => cases a <;> simp [encodeModRM, Operand.dispBytes, MemAddr.dispBytes, leBytes]

@[simp] theorem leBytes_length (v : Word) : (leBytes v).length = 2 := rfl

end Sys2Proof
end

