-- ==== Sys2Proof/Laws/Memory.lean ====
section
/-! SUPPORT. The laws of memory (R61 to R65): a read after a write, the frame of a write, the canonical form, and the
injectivity of addresses inside one segment. -/

namespace Sys2Proof.Machine

theorem Memory.read_filter_same (m : Memory) (a : Nat) :
    Memory.read (m.filter (fun c => c.1 != a)) a = Config.ramFill := by
  induction m with
  | nil => rfl
  | cons c m ih =>
    by_cases h : c.1 = a
    · simpa [h] using ih
    · simp [h, Memory.read, ih]

theorem Memory.read_filter_other (m : Memory) {a b : Nat} (h : b ≠ a) :
    Memory.read (m.filter (fun c => c.1 != a)) b = m.read b := by
  induction m with
  | nil => rfl
  | cons c m ih =>
    by_cases hc : c.1 = a
    · have hb : c.1 ≠ b := by omega
      simpa [hc, Memory.read, hb, Ne.symm h] using ih
    · simp [hc, Memory.read, ih]

theorem Memory.read_insert_same (m : Memory) (a : Nat) (v : Byte) (h : ∀ c ∈ m, c.1 ≠ a) :
    Memory.read (m.insert (a, v)) a = v := by
  induction m with
  | nil => simp [Memory.insert, Memory.read]
  | cons d m ih =>
    have hd : d.1 ≠ a := h d (by simp)
    have hm := ih (fun c hc => h c (by simp [hc]))
    by_cases hlt : a < d.1
    · simp [Memory.insert, hlt, Memory.read]
    · simp [Memory.insert, hlt, Memory.read, hd, hm]

theorem Memory.read_insert_other (m : Memory) {a b : Nat} (v : Byte) (h : b ≠ a) :
    Memory.read (m.insert (a, v)) b = m.read b := by
  induction m with
  | nil => simp [Memory.insert, Memory.read, Ne.symm h]
  | cons d m ih =>
    by_cases hlt : a < d.1
    · simp [Memory.insert, hlt, Memory.read, Ne.symm h]
    · simp [Memory.insert, hlt, Memory.read, ih]

/-- A read of the byte just written gives it (R71). -/
@[simp] theorem Memory.read_write_same (m : Memory) (a : Nat) (v : Byte) : (m.write a v).read a = v := by
  unfold Memory.write
  split
  · next h => rw [Memory.read_filter_same, h]
  · exact Memory.read_insert_same _ a v (by simp)

/-- A write leaves every other byte (R68). -/
theorem Memory.read_write_other (m : Memory) {a b : Nat} (v : Byte) (h : b ≠ a) : (m.write a v).read b = m.read b := by
  unfold Memory.write
  split
  · exact m.read_filter_other h
  · rw [Memory.read_insert_other _ v h, m.read_filter_other h]

theorem Memory.mem_insert {m : Memory} {c d : Host.Cell} (h : d ∈ m.insert c) : d = c ∨ d ∈ m := by
  induction m with
  | nil => simpa [Memory.insert] using h
  | cons e m ih =>
    by_cases hlt : c.1 < e.1
    · simpa [Memory.insert, hlt] using h
    · simp only [Memory.insert, hlt, if_false, List.mem_cons] at h
      rcases h with h | h
      · simp [h]
      · rcases ih h with h | h <;> simp [h]

theorem Memory.sorted_insert {m : Memory} {c : Host.Cell} (hs : m.Pairwise (fun c d => c.1 < d.1))
    (h : ∀ d ∈ m, d.1 ≠ c.1) : (m.insert c).Pairwise (fun c d => c.1 < d.1) := by
  induction m with
  | nil => simp [Memory.insert]
  | cons e m ih =>
    rw [List.pairwise_cons] at hs
    by_cases hlt : c.1 < e.1
    · simp only [Memory.insert, hlt, if_true, List.pairwise_cons, List.mem_cons]
      refine ⟨?_, hs.1, hs.2⟩
      rintro d (rfl | hd)
      · exact hlt
      · exact Nat.lt_trans hlt (hs.1 d hd)
    · simp only [Memory.insert, hlt, if_false, List.pairwise_cons]
      refine ⟨fun d hd => ?_, ih hs.2 (fun d hd => h d (by simp [hd]))⟩
      rcases Memory.mem_insert hd with rfl | hd
      · have := h e (by simp)
        omega
      · exact hs.1 d hd

theorem Memory.wf_iff (m : Memory) :
    m.wf = true ↔ m.Pairwise (fun c d => c.1 < d.1) ∧ ∀ c ∈ m, c.2 ≠ Config.ramFill ∧ c.1 < 2 ^ 20 := by
  simp [Memory.wf]

/-- A write keeps the canonical form. -/
theorem Memory.wf_write {m : Memory} {a : Nat} (v : Byte) (h : m.wf = true) (ha : a < 2 ^ 20) :
    (m.write a v).wf = true := by
  rw [Memory.wf_iff] at h ⊢
  have hs : (m.filter (fun c => c.1 != a)).Pairwise (fun c d => c.1 < d.1) := h.1.sublist List.filter_sublist
  have hm : ∀ c ∈ m.filter (fun c => c.1 != a), c.2 ≠ Config.ramFill ∧ c.1 < 2 ^ 20 := fun c hc =>
    h.2 c (List.mem_filter.1 hc).1
  unfold Memory.write
  split
  · exact ⟨hs, hm⟩
  · next hv =>
    refine ⟨Memory.sorted_insert hs (fun d hd => ?_), fun c hc => ?_⟩
    · simpa using (List.mem_filter.1 hd).2
    · rcases Memory.mem_insert hc with rfl | hc
      · exact ⟨hv, ha⟩
      · exact hm c hc

theorem phys_toNat (seg off : Word) : (phys seg off).toNat = (seg.toNat * 16 + off.toNat) % 2 ^ 20 := by
  have hs := seg.isLt
  have ho := off.isLt
  simp only [phys, BitVec.toNat_add, BitVec.toNat_shiftLeft, BitVec.toNat_setWidth, Nat.shiftLeft_eq]
  omega

/-- One segment names no byte twice: the offsets of a segment reach distinct bytes. -/
theorem phys_inj {seg off off' : Word} (h : (phys seg off).toNat = (phys seg off').toNat) : off = off' := by
  have ho := off.isLt
  have ho' := off'.isLt
  rw [phys_toNat, phys_toNat] at h
  apply BitVec.eq_of_toNat_eq
  omega

theorem phys_succ_ne (seg off : Word) : (phys seg (off + 1#16)).toNat ≠ (phys seg off).toNat := by
  intro h
  have := phys_inj h
  have e := congrArg BitVec.toNat this
  have ho := off.isLt
  simp only [BitVec.toNat_add, BitVec.toNat_ofNat] at e
  omega

theorem Memory.wf_write8 {m : Memory} (seg off : Word) (v : Byte) (h : m.wf = true) : (m.write8 seg off v).wf = true :=
  Memory.wf_write v h (phys seg off).isLt

theorem Memory.wf_write16 {m : Memory} (seg off v : Word) (h : m.wf = true) : (m.write16 seg off v).wf = true :=
  Memory.wf_write8 _ _ _ (Memory.wf_write8 _ _ _ h)

@[simp] theorem Memory.read8_write8_same (m : Memory) (seg off : Word) (v : Byte) :
    (m.write8 seg off v).read8 seg off = v :=
  Memory.read_write_same _ _ _

/-- A byte store leaves every byte but its own. -/
theorem Memory.read_write8_other (m : Memory) {seg off : Word} {v : Byte} {a : Nat} (h : a ≠ (phys seg off).toNat) :
    (m.write8 seg off v).read a = m.read a :=
  Memory.read_write_other _ _ h

/-- A word store leaves every byte but its two. -/
theorem Memory.read_write16_other (m : Memory) {seg off v : Word} {a : Nat} (h : a ≠ (phys seg off).toNat)
    (h' : a ≠ (phys seg (off + 1#16)).toNat) : (m.write16 seg off v).read a = m.read a := by
  unfold Memory.write16 Memory.write8
  rw [Memory.read_write_other _ _ h', Memory.read_write_other _ _ h]

end Sys2Proof.Machine
end

