-- ==== Sys2Proof/Laws/State.lean ====
section
/-! SUPPORT. One lemma for each field of State after each named update, true by rfl, so that no proof unfolds a record
update; and the same for the parse of a ModR/M byte and the flag updates. -/

namespace Sys2Proof.Machine

variable (s : State)

@[simp] theorem State.set16_regs (r : Reg16) (v : Word) : (s.set16 r v).regs = s.regs.set16 r v := rfl
@[simp] theorem State.set16_sregs (r : Reg16) (v : Word) : (s.set16 r v).sregs = s.sregs := rfl
@[simp] theorem State.set16_flags (r : Reg16) (v : Word) : (s.set16 r v).flags = s.flags := rfl
@[simp] theorem State.set16_ip (r : Reg16) (v : Word) : (s.set16 r v).ip = s.ip := rfl
@[simp] theorem State.set16_mem (r : Reg16) (v : Word) : (s.set16 r v).mem = s.mem := rfl
@[simp] theorem State.set16_tr (r : Reg16) (v : Word) : (s.set16 r v).tr = s.tr := rfl
@[simp] theorem State.set16_budget (r : Reg16) (v : Word) : (s.set16 r v).budget = s.budget := rfl
@[simp] theorem State.set16_halted (r : Reg16) (v : Word) : (s.set16 r v).halted = s.halted := rfl
@[simp] theorem State.set16_draws (r : Reg16) (v : Word) : (s.set16 r v).draws = s.draws := rfl
@[simp] theorem State.set16_params (r : Reg16) (v : Word) : (s.set16 r v).params = s.params := rfl

@[simp] theorem State.set8_regs (r : Reg8) (v : Byte) : (s.set8 r v).regs = s.regs.set8 r v := rfl
@[simp] theorem State.set8_sregs (r : Reg8) (v : Byte) : (s.set8 r v).sregs = s.sregs := rfl
@[simp] theorem State.set8_flags (r : Reg8) (v : Byte) : (s.set8 r v).flags = s.flags := rfl
@[simp] theorem State.set8_ip (r : Reg8) (v : Byte) : (s.set8 r v).ip = s.ip := rfl
@[simp] theorem State.set8_mem (r : Reg8) (v : Byte) : (s.set8 r v).mem = s.mem := rfl
@[simp] theorem State.set8_tr (r : Reg8) (v : Byte) : (s.set8 r v).tr = s.tr := rfl
@[simp] theorem State.set8_budget (r : Reg8) (v : Byte) : (s.set8 r v).budget = s.budget := rfl
@[simp] theorem State.set8_halted (r : Reg8) (v : Byte) : (s.set8 r v).halted = s.halted := rfl
@[simp] theorem State.set8_draws (r : Reg8) (v : Byte) : (s.set8 r v).draws = s.draws := rfl
@[simp] theorem State.set8_params (r : Reg8) (v : Byte) : (s.set8 r v).params = s.params := rfl

@[simp] theorem State.write8_regs (seg : Word) (off : Word) (v : Byte) : (s.write8 seg off v).regs = s.regs := rfl
@[simp] theorem State.write8_sregs (seg : Word) (off : Word) (v : Byte) : (s.write8 seg off v).sregs = s.sregs := rfl
@[simp] theorem State.write8_flags (seg : Word) (off : Word) (v : Byte) : (s.write8 seg off v).flags = s.flags := rfl
@[simp] theorem State.write8_ip (seg : Word) (off : Word) (v : Byte) : (s.write8 seg off v).ip = s.ip := rfl
@[simp] theorem State.write8_mem (seg : Word) (off : Word) (v : Byte) : (s.write8 seg off v).mem = s.mem.write8 seg off v := rfl
@[simp] theorem State.write8_tr (seg : Word) (off : Word) (v : Byte) : (s.write8 seg off v).tr = s.tr := rfl
@[simp] theorem State.write8_budget (seg : Word) (off : Word) (v : Byte) : (s.write8 seg off v).budget = s.budget := rfl
@[simp] theorem State.write8_halted (seg : Word) (off : Word) (v : Byte) : (s.write8 seg off v).halted = s.halted := rfl
@[simp] theorem State.write8_draws (seg : Word) (off : Word) (v : Byte) : (s.write8 seg off v).draws = s.draws := rfl
@[simp] theorem State.write8_params (seg : Word) (off : Word) (v : Byte) : (s.write8 seg off v).params = s.params := rfl

@[simp] theorem State.write16_regs (seg : Word) (off : Word) (v : Word) : (s.write16 seg off v).regs = s.regs := rfl
@[simp] theorem State.write16_sregs (seg : Word) (off : Word) (v : Word) : (s.write16 seg off v).sregs = s.sregs := rfl
@[simp] theorem State.write16_flags (seg : Word) (off : Word) (v : Word) : (s.write16 seg off v).flags = s.flags := rfl
@[simp] theorem State.write16_ip (seg : Word) (off : Word) (v : Word) : (s.write16 seg off v).ip = s.ip := rfl
@[simp] theorem State.write16_mem (seg : Word) (off : Word) (v : Word) : (s.write16 seg off v).mem = s.mem.write16 seg off v := rfl
@[simp] theorem State.write16_tr (seg : Word) (off : Word) (v : Word) : (s.write16 seg off v).tr = s.tr := rfl
@[simp] theorem State.write16_budget (seg : Word) (off : Word) (v : Word) : (s.write16 seg off v).budget = s.budget := rfl
@[simp] theorem State.write16_halted (seg : Word) (off : Word) (v : Word) : (s.write16 seg off v).halted = s.halted := rfl
@[simp] theorem State.write16_draws (seg : Word) (off : Word) (v : Word) : (s.write16 seg off v).draws = s.draws := rfl
@[simp] theorem State.write16_params (seg : Word) (off : Word) (v : Word) : (s.write16 seg off v).params = s.params := rfl

@[simp] theorem State.setFlags_regs (f : Flags) : (s.setFlags f).regs = s.regs := rfl
@[simp] theorem State.setFlags_sregs (f : Flags) : (s.setFlags f).sregs = s.sregs := rfl
@[simp] theorem State.setFlags_flags (f : Flags) : (s.setFlags f).flags = f := rfl
@[simp] theorem State.setFlags_ip (f : Flags) : (s.setFlags f).ip = s.ip := rfl
@[simp] theorem State.setFlags_mem (f : Flags) : (s.setFlags f).mem = s.mem := rfl
@[simp] theorem State.setFlags_tr (f : Flags) : (s.setFlags f).tr = s.tr := rfl
@[simp] theorem State.setFlags_budget (f : Flags) : (s.setFlags f).budget = s.budget := rfl
@[simp] theorem State.setFlags_halted (f : Flags) : (s.setFlags f).halted = s.halted := rfl
@[simp] theorem State.setFlags_draws (f : Flags) : (s.setFlags f).draws = s.draws := rfl
@[simp] theorem State.setFlags_params (f : Flags) : (s.setFlags f).params = s.params := rfl

@[simp] theorem State.draw_regs (n : Nat) : (s.draw n).regs = s.regs := rfl
@[simp] theorem State.draw_sregs (n : Nat) : (s.draw n).sregs = s.sregs := rfl
@[simp] theorem State.draw_flags (n : Nat) : (s.draw n).flags = s.flags := rfl
@[simp] theorem State.draw_ip (n : Nat) : (s.draw n).ip = s.ip := rfl
@[simp] theorem State.draw_mem (n : Nat) : (s.draw n).mem = s.mem := rfl
@[simp] theorem State.draw_tr (n : Nat) : (s.draw n).tr = s.tr := rfl
@[simp] theorem State.draw_budget (n : Nat) : (s.draw n).budget = s.budget := rfl
@[simp] theorem State.draw_halted (n : Nat) : (s.draw n).halted = s.halted := rfl
@[simp] theorem State.draw_draws (n : Nat) : (s.draw n).draws = s.draws + n := rfl
@[simp] theorem State.draw_params (n : Nat) : (s.draw n).params = s.params := rfl

@[simp] theorem State.setAddress_regs (seg : Word) (off : Word) : (s.setAddress seg off).regs = s.regs := rfl
@[simp] theorem State.setAddress_sregs (seg : Word) (off : Word) : (s.setAddress seg off).sregs = s.sregs := rfl
@[simp] theorem State.setAddress_flags (seg : Word) (off : Word) : (s.setAddress seg off).flags = s.flags := rfl
@[simp] theorem State.setAddress_ip (seg : Word) (off : Word) : (s.setAddress seg off).ip = s.ip := rfl
@[simp] theorem State.setAddress_mem (seg : Word) (off : Word) : (s.setAddress seg off).mem = s.mem := rfl
@[simp] theorem State.setAddress_tr (seg : Word) (off : Word) : (s.setAddress seg off).tr = { s.tr with seg := seg, off := off, ea := phys seg off } := rfl
@[simp] theorem State.setAddress_budget (seg : Word) (off : Word) : (s.setAddress seg off).budget = s.budget := rfl
@[simp] theorem State.setAddress_halted (seg : Word) (off : Word) : (s.setAddress seg off).halted = s.halted := rfl
@[simp] theorem State.setAddress_draws (seg : Word) (off : Word) : (s.setAddress seg off).draws = s.draws := rfl
@[simp] theorem State.setAddress_params (seg : Word) (off : Word) : (s.setAddress seg off).params = s.params := rfl

@[simp] theorem State.setModRM_regs (m : BitVec 2) (g : BitVec 3) (r : BitVec 3) : (s.setModRM m g r).regs = s.regs := rfl
@[simp] theorem State.setModRM_sregs (m : BitVec 2) (g : BitVec 3) (r : BitVec 3) : (s.setModRM m g r).sregs = s.sregs := rfl
@[simp] theorem State.setModRM_flags (m : BitVec 2) (g : BitVec 3) (r : BitVec 3) : (s.setModRM m g r).flags = s.flags := rfl
@[simp] theorem State.setModRM_ip (m : BitVec 2) (g : BitVec 3) (r : BitVec 3) : (s.setModRM m g r).ip = s.ip := rfl
@[simp] theorem State.setModRM_mem (m : BitVec 2) (g : BitVec 3) (r : BitVec 3) : (s.setModRM m g r).mem = s.mem := rfl
@[simp] theorem State.setModRM_tr (m : BitVec 2) (g : BitVec 3) (r : BitVec 3) : (s.setModRM m g r).tr = { s.tr with mod := m, reg := g, rm := r } := rfl
@[simp] theorem State.setModRM_budget (m : BitVec 2) (g : BitVec 3) (r : BitVec 3) : (s.setModRM m g r).budget = s.budget := rfl
@[simp] theorem State.setModRM_halted (m : BitVec 2) (g : BitVec 3) (r : BitVec 3) : (s.setModRM m g r).halted = s.halted := rfl
@[simp] theorem State.setModRM_draws (m : BitVec 2) (g : BitVec 3) (r : BitVec 3) : (s.setModRM m g r).draws = s.draws := rfl
@[simp] theorem State.setModRM_params (m : BitVec 2) (g : BitVec 3) (r : BitVec 3) : (s.setModRM m g r).params = s.params := rfl

@[simp] theorem State.directOffset_regs (ow : Word) : (s.directOffset ow).regs = s.regs := rfl
@[simp] theorem State.directOffset_sregs (ow : Word) : (s.directOffset ow).sregs = s.sregs := rfl
@[simp] theorem State.directOffset_flags (ow : Word) : (s.directOffset ow).flags = s.flags := rfl
@[simp] theorem State.directOffset_ip (ow : Word) : (s.directOffset ow).ip = s.ip := rfl
@[simp] theorem State.directOffset_mem (ow : Word) : (s.directOffset ow).mem = s.mem := rfl
@[simp] theorem State.directOffset_tr (ow : Word) : (s.directOffset ow).tr = { s.tr with seg := s.operandSeg .ds, off := ow, ea := phys (s.operandSeg .ds) ow } := rfl
@[simp] theorem State.directOffset_budget (ow : Word) : (s.directOffset ow).budget = s.budget := rfl
@[simp] theorem State.directOffset_halted (ow : Word) : (s.directOffset ow).halted = s.halted := rfl
@[simp] theorem State.directOffset_draws (ow : Word) : (s.directOffset ow).draws = s.draws := rfl
@[simp] theorem State.directOffset_params (ow : Word) : (s.directOffset ow).params = s.params := rfl

@[simp] theorem State.advanceIP_regs (n : Nat) : (s.advanceIP n).regs = s.regs := rfl
@[simp] theorem State.advanceIP_sregs (n : Nat) : (s.advanceIP n).sregs = s.sregs := rfl
@[simp] theorem State.advanceIP_flags (n : Nat) : (s.advanceIP n).flags = s.flags := rfl
@[simp] theorem State.advanceIP_ip (n : Nat) : (s.advanceIP n).ip = s.ip + BitVec.ofNat 16 n := rfl
@[simp] theorem State.advanceIP_mem (n : Nat) : (s.advanceIP n).mem = s.mem := rfl
@[simp] theorem State.advanceIP_tr (n : Nat) : (s.advanceIP n).tr = s.tr := rfl
@[simp] theorem State.advanceIP_budget (n : Nat) : (s.advanceIP n).budget = s.budget := rfl
@[simp] theorem State.advanceIP_halted (n : Nat) : (s.advanceIP n).halted = s.halted := rfl
@[simp] theorem State.advanceIP_draws (n : Nat) : (s.advanceIP n).draws = s.draws := rfl
@[simp] theorem State.advanceIP_params (n : Nat) : (s.advanceIP n).params = s.params := rfl

@[simp] theorem State.jump_regs (d : Byte) : (s.jump d).regs = s.regs := rfl
@[simp] theorem State.jump_sregs (d : Byte) : (s.jump d).sregs = s.sregs := rfl
@[simp] theorem State.jump_flags (d : Byte) : (s.jump d).flags = s.flags := rfl
@[simp] theorem State.jump_ip (d : Byte) : (s.jump d).ip = s.ip + sext16 d := rfl
@[simp] theorem State.jump_mem (d : Byte) : (s.jump d).mem = s.mem := rfl
@[simp] theorem State.jump_tr (d : Byte) : (s.jump d).tr = s.tr := rfl
@[simp] theorem State.jump_budget (d : Byte) : (s.jump d).budget = s.budget := rfl
@[simp] theorem State.jump_halted (d : Byte) : (s.jump d).halted = s.halted := rfl
@[simp] theorem State.jump_draws (d : Byte) : (s.jump d).draws = s.draws := rfl
@[simp] theorem State.jump_params (d : Byte) : (s.jump d).params = s.params := rfl

@[simp] theorem State.retire_regs : (s.retire).regs = s.regs := rfl
@[simp] theorem State.retire_sregs : (s.retire).sregs = s.sregs := rfl
@[simp] theorem State.retire_flags : (s.retire).flags = s.flags := rfl
@[simp] theorem State.retire_ip : (s.retire).ip = s.ip := rfl
@[simp] theorem State.retire_mem : (s.retire).mem = s.mem := rfl
@[simp] theorem State.retire_tr : (s.retire).tr = { s.tr with segOverride := false, rep := .none } := rfl
@[simp] theorem State.retire_budget : (s.retire).budget = s.budget - 1 := rfl
@[simp] theorem State.retire_halted : (s.retire).halted = s.halted := rfl
@[simp] theorem State.retire_draws : (s.retire).draws = s.draws := rfl
@[simp] theorem State.retire_params : (s.retire).params = s.params := rfl

@[simp] theorem State.push_regs (v : Word) : (s.push v).regs = s.regs.set16 .sp (s.get16 .sp - 2#16) := rfl
@[simp] theorem State.push_sregs (v : Word) : (s.push v).sregs = s.sregs := rfl
@[simp] theorem State.push_flags (v : Word) : (s.push v).flags = s.flags := rfl
@[simp] theorem State.push_ip (v : Word) : (s.push v).ip = s.ip := rfl
@[simp] theorem State.push_mem (v : Word) : (s.push v).mem = s.mem.write16 (s.getSeg .ss) (s.get16 .sp - 2#16) v := rfl
@[simp] theorem State.push_tr (v : Word) : (s.push v).tr = s.tr := rfl
@[simp] theorem State.push_budget (v : Word) : (s.push v).budget = s.budget := rfl
@[simp] theorem State.push_halted (v : Word) : (s.push v).halted = s.halted := rfl
@[simp] theorem State.push_draws (v : Word) : (s.push v).draws = s.draws := rfl
@[simp] theorem State.push_params (v : Word) : (s.push v).params = s.params := rfl

@[simp] theorem State.parseModRM_regs {R : Type} (g : BitVec 3) (c : R → BitVec 3) (e : Operand R) :
    (s.parseModRM g c e).regs = s.regs := by cases e <;> rfl
@[simp] theorem State.parseModRM_sregs {R : Type} (g : BitVec 3) (c : R → BitVec 3) (e : Operand R) :
    (s.parseModRM g c e).sregs = s.sregs := by cases e <;> rfl
@[simp] theorem State.parseModRM_flags {R : Type} (g : BitVec 3) (c : R → BitVec 3) (e : Operand R) :
    (s.parseModRM g c e).flags = s.flags := by cases e <;> rfl
@[simp] theorem State.parseModRM_ip {R : Type} (g : BitVec 3) (c : R → BitVec 3) (e : Operand R) :
    (s.parseModRM g c e).ip = s.ip := by cases e <;> rfl
@[simp] theorem State.parseModRM_mem {R : Type} (g : BitVec 3) (c : R → BitVec 3) (e : Operand R) :
    (s.parseModRM g c e).mem = s.mem := by cases e <;> rfl
@[simp] theorem State.parseModRM_budget {R : Type} (g : BitVec 3) (c : R → BitVec 3) (e : Operand R) :
    (s.parseModRM g c e).budget = s.budget := by cases e <;> rfl
@[simp] theorem State.parseModRM_halted {R : Type} (g : BitVec 3) (c : R → BitVec 3) (e : Operand R) :
    (s.parseModRM g c e).halted = s.halted := by cases e <;> rfl
@[simp] theorem State.parseModRM_draws {R : Type} (g : BitVec 3) (c : R → BitVec 3) (e : Operand R) :
    (s.parseModRM g c e).draws = s.draws := by cases e <;> rfl
@[simp] theorem State.parseModRM_params {R : Type} (g : BitVec 3) (c : R → BitVec 3) (e : Operand R) :
    (s.parseModRM g c e).params = s.params := by cases e <;> rfl

@[simp] theorem State.parse8_regs (g : BitVec 3) (e : Operand Reg8) : (s.parse8 g e).regs = s.regs := by
  cases e <;> rfl
@[simp] theorem State.parse8_sregs (g : BitVec 3) (e : Operand Reg8) : (s.parse8 g e).sregs = s.sregs := by
  cases e <;> rfl
@[simp] theorem State.parse8_flags (g : BitVec 3) (e : Operand Reg8) : (s.parse8 g e).flags = s.flags := by
  cases e <;> rfl
@[simp] theorem State.parse8_ip (g : BitVec 3) (e : Operand Reg8) : (s.parse8 g e).ip = s.ip := by
  cases e <;> rfl
@[simp] theorem State.parse8_mem (g : BitVec 3) (e : Operand Reg8) : (s.parse8 g e).mem = s.mem := by
  cases e <;> rfl
@[simp] theorem State.parse8_budget (g : BitVec 3) (e : Operand Reg8) : (s.parse8 g e).budget = s.budget := by
  cases e <;> rfl
@[simp] theorem State.parse8_halted (g : BitVec 3) (e : Operand Reg8) : (s.parse8 g e).halted = s.halted := by
  cases e <;> rfl
@[simp] theorem State.parse8_draws (g : BitVec 3) (e : Operand Reg8) : (s.parse8 g e).draws = s.draws := by
  cases e <;> rfl
@[simp] theorem State.parse8_params (g : BitVec 3) (e : Operand Reg8) : (s.parse8 g e).params = s.params := by
  cases e <;> rfl

@[simp] theorem State.parse16_regs (g : BitVec 3) (e : Operand Reg16) : (s.parse16 g e).regs = s.regs := by
  cases e <;> rfl
@[simp] theorem State.parse16_sregs (g : BitVec 3) (e : Operand Reg16) : (s.parse16 g e).sregs = s.sregs := by
  cases e <;> rfl
@[simp] theorem State.parse16_flags (g : BitVec 3) (e : Operand Reg16) : (s.parse16 g e).flags = s.flags := by
  cases e <;> rfl
@[simp] theorem State.parse16_ip (g : BitVec 3) (e : Operand Reg16) : (s.parse16 g e).ip = s.ip := by
  cases e <;> rfl
@[simp] theorem State.parse16_mem (g : BitVec 3) (e : Operand Reg16) : (s.parse16 g e).mem = s.mem := by
  cases e <;> rfl
@[simp] theorem State.parse16_budget (g : BitVec 3) (e : Operand Reg16) : (s.parse16 g e).budget = s.budget := by
  cases e <;> rfl
@[simp] theorem State.parse16_halted (g : BitVec 3) (e : Operand Reg16) : (s.parse16 g e).halted = s.halted := by
  cases e <;> rfl
@[simp] theorem State.parse16_draws (g : BitVec 3) (e : Operand Reg16) : (s.parse16 g e).draws = s.draws := by
  cases e <;> rfl
@[simp] theorem State.parse16_params (g : BitVec 3) (e : Operand Reg16) : (s.parse16 g e).params = s.params := by
  cases e <;> rfl

@[simp] theorem State.alu_regs {w : Nat} (k : AluOp) (d x : BitVec w) : (s.alu k d x).2.regs = s.regs := rfl
@[simp] theorem State.alu_sregs {w : Nat} (k : AluOp) (d x : BitVec w) : (s.alu k d x).2.sregs = s.sregs := rfl
@[simp] theorem State.alu_ip {w : Nat} (k : AluOp) (d x : BitVec w) : (s.alu k d x).2.ip = s.ip := rfl
@[simp] theorem State.alu_mem {w : Nat} (k : AluOp) (d x : BitVec w) : (s.alu k d x).2.mem = s.mem := rfl
@[simp] theorem State.alu_tr {w : Nat} (k : AluOp) (d x : BitVec w) : (s.alu k d x).2.tr = s.tr := rfl
@[simp] theorem State.alu_budget {w : Nat} (k : AluOp) (d x : BitVec w) : (s.alu k d x).2.budget = s.budget := rfl
@[simp] theorem State.alu_halted {w : Nat} (k : AluOp) (d x : BitVec w) : (s.alu k d x).2.halted = s.halted := rfl
@[simp] theorem State.alu_params {w : Nat} (k : AluOp) (d x : BitVec w) : (s.alu k d x).2.params = s.params := rfl
@[simp] theorem State.alu_flags {w : Nat} (k : AluOp) (d x : BitVec w) :
    (s.alu k d x).2.flags = s.flags.setArith (aluK k d x s.flags.CF s.logicAf).2 := rfl
@[simp] theorem State.alu_fst {w : Nat} (k : AluOp) (d x : BitVec w) :
    (s.alu k d x).1 = (aluK k d x s.flags.CF s.logicAf).1 := rfl

@[simp] theorem State.inc_regs (d : Word) : (s.inc d).2.regs = s.regs := rfl
@[simp] theorem State.inc_sregs (d : Word) : (s.inc d).2.sregs = s.sregs := rfl
@[simp] theorem State.inc_ip (d : Word) : (s.inc d).2.ip = s.ip := rfl
@[simp] theorem State.inc_mem (d : Word) : (s.inc d).2.mem = s.mem := rfl
@[simp] theorem State.inc_tr (d : Word) : (s.inc d).2.tr = s.tr := rfl
@[simp] theorem State.inc_budget (d : Word) : (s.inc d).2.budget = s.budget := rfl
@[simp] theorem State.inc_halted (d : Word) : (s.inc d).2.halted = s.halted := rfl
@[simp] theorem State.inc_draws (d : Word) : (s.inc d).2.draws = s.draws := rfl
@[simp] theorem State.inc_params (d : Word) : (s.inc d).2.params = s.params := rfl
@[simp] theorem State.dec_regs (d : Word) : (s.dec d).2.regs = s.regs := rfl
@[simp] theorem State.dec_sregs (d : Word) : (s.dec d).2.sregs = s.sregs := rfl
@[simp] theorem State.dec_ip (d : Word) : (s.dec d).2.ip = s.ip := rfl
@[simp] theorem State.dec_mem (d : Word) : (s.dec d).2.mem = s.mem := rfl
@[simp] theorem State.dec_tr (d : Word) : (s.dec d).2.tr = s.tr := rfl
@[simp] theorem State.dec_budget (d : Word) : (s.dec d).2.budget = s.budget := rfl
@[simp] theorem State.dec_halted (d : Word) : (s.dec d).2.halted = s.halted := rfl
@[simp] theorem State.dec_draws (d : Word) : (s.dec d).2.draws = s.draws := rfl
@[simp] theorem State.dec_params (d : Word) : (s.dec d).2.params = s.params := rfl

@[simp] theorem State.writeE8_sregs (e : Operand Reg8) (v : Byte) : (s.writeE8 e v).sregs = s.sregs := by
  cases e <;> rfl
@[simp] theorem State.writeE8_flags (e : Operand Reg8) (v : Byte) : (s.writeE8 e v).flags = s.flags := by
  cases e <;> rfl
@[simp] theorem State.writeE8_ip (e : Operand Reg8) (v : Byte) : (s.writeE8 e v).ip = s.ip := by
  cases e <;> rfl
@[simp] theorem State.writeE8_tr (e : Operand Reg8) (v : Byte) : (s.writeE8 e v).tr = s.tr := by
  cases e <;> rfl
@[simp] theorem State.writeE8_budget (e : Operand Reg8) (v : Byte) : (s.writeE8 e v).budget = s.budget := by
  cases e <;> rfl
@[simp] theorem State.writeE8_halted (e : Operand Reg8) (v : Byte) : (s.writeE8 e v).halted = s.halted := by
  cases e <;> rfl
@[simp] theorem State.writeE8_draws (e : Operand Reg8) (v : Byte) : (s.writeE8 e v).draws = s.draws := by
  cases e <;> rfl
@[simp] theorem State.writeE8_params (e : Operand Reg8) (v : Byte) : (s.writeE8 e v).params = s.params := by
  cases e <;> rfl

@[simp] theorem State.writeE16_sregs (e : Operand Reg16) (v : Word) : (s.writeE16 e v).sregs = s.sregs := by
  cases e <;> rfl
@[simp] theorem State.writeE16_flags (e : Operand Reg16) (v : Word) : (s.writeE16 e v).flags = s.flags := by
  cases e <;> rfl
@[simp] theorem State.writeE16_ip (e : Operand Reg16) (v : Word) : (s.writeE16 e v).ip = s.ip := by
  cases e <;> rfl
@[simp] theorem State.writeE16_tr (e : Operand Reg16) (v : Word) : (s.writeE16 e v).tr = s.tr := by
  cases e <;> rfl
@[simp] theorem State.writeE16_budget (e : Operand Reg16) (v : Word) : (s.writeE16 e v).budget = s.budget := by
  cases e <;> rfl
@[simp] theorem State.writeE16_halted (e : Operand Reg16) (v : Word) : (s.writeE16 e v).halted = s.halted := by
  cases e <;> rfl
@[simp] theorem State.writeE16_draws (e : Operand Reg16) (v : Word) : (s.writeE16 e v).draws = s.draws := by
  cases e <;> rfl
@[simp] theorem State.writeE16_params (e : Operand Reg16) (v : Word) : (s.writeE16 e v).params = s.params := by
  cases e <;> rfl

theorem State.get16_eq (r : Reg16) : s.get16 r = s.regs.get16 r := rfl
theorem State.get8_eq (r : Reg8) : s.get8 r = s.regs.get8 r := rfl
theorem State.getSeg_eq (r : SegReg) : s.getSeg r = s.sregs.get r := rfl

@[simp] theorem State.parseModRM_segOverride {R : Type} (g : BitVec 3) (c : R → BitVec 3) (e : Operand R) :
    (s.parseModRM g c e).tr.segOverride = s.tr.segOverride := by cases e <;> rfl
@[simp] theorem State.parseModRM_rep {R : Type} (g : BitVec 3) (c : R → BitVec 3) (e : Operand R) :
    (s.parseModRM g c e).tr.rep = s.tr.rep := by cases e <;> rfl
@[simp] theorem State.parse8_segOverride (g : BitVec 3) (e : Operand Reg8) :
    (s.parse8 g e).tr.segOverride = s.tr.segOverride := by cases e <;> rfl
@[simp] theorem State.parse16_segOverride (g : BitVec 3) (e : Operand Reg16) :
    (s.parse16 g e).tr.segOverride = s.tr.segOverride := by cases e <;> rfl
@[simp] theorem State.parse8_rep (g : BitVec 3) (e : Operand Reg8) : (s.parse8 g e).tr.rep = s.tr.rep := by
  cases e <;> rfl
@[simp] theorem State.parse16_rep (g : BitVec 3) (e : Operand Reg16) : (s.parse16 g e).tr.rep = s.tr.rep := by
  cases e <;> rfl

@[simp] theorem Flags.setArith_TF (f : Flags) (a : ArithFlags) : (f.setArith a).TF = f.TF := rfl
@[simp] theorem Flags.setArith_IF (f : Flags) (a : ArithFlags) : (f.setArith a).IF = f.IF := rfl
@[simp] theorem Flags.setArith_DF (f : Flags) (a : ArithFlags) : (f.setArith a).DF = f.DF := rfl
@[simp] theorem Flags.setArith_CF (f : Flags) (a : ArithFlags) : (f.setArith a).CF = a.CF := rfl
@[simp] theorem Flags.setArith_PF (f : Flags) (a : ArithFlags) : (f.setArith a).PF = a.PF := rfl
@[simp] theorem Flags.setArith_AF (f : Flags) (a : ArithFlags) : (f.setArith a).AF = a.AF := rfl
@[simp] theorem Flags.setArith_ZF (f : Flags) (a : ArithFlags) : (f.setArith a).ZF = a.ZF := rfl
@[simp] theorem Flags.setArith_SF (f : Flags) (a : ArithFlags) : (f.setArith a).SF = a.SF := rfl
@[simp] theorem Flags.setArith_OF (f : Flags) (a : ArithFlags) : (f.setArith a).OF = a.OF := rfl
@[simp] theorem Flags.setArithKeepCF_CF (f : Flags) (a : ArithFlags) : (f.setArithKeepCF a).CF = f.CF := rfl
@[simp] theorem Flags.setArithKeepCF_PF (f : Flags) (a : ArithFlags) : (f.setArithKeepCF a).PF = a.PF := rfl
@[simp] theorem Flags.setArithKeepCF_AF (f : Flags) (a : ArithFlags) : (f.setArithKeepCF a).AF = a.AF := rfl
@[simp] theorem Flags.setArithKeepCF_ZF (f : Flags) (a : ArithFlags) : (f.setArithKeepCF a).ZF = a.ZF := rfl
@[simp] theorem Flags.setArithKeepCF_SF (f : Flags) (a : ArithFlags) : (f.setArithKeepCF a).SF = a.SF := rfl
@[simp] theorem Flags.setArithKeepCF_OF (f : Flags) (a : ArithFlags) : (f.setArithKeepCF a).OF = a.OF := rfl
@[simp] theorem Flags.setArithKeepCF_TF (f : Flags) (a : ArithFlags) : (f.setArithKeepCF a).TF = f.TF := rfl
@[simp] theorem Flags.setArithKeepCF_IF (f : Flags) (a : ArithFlags) : (f.setArithKeepCF a).IF = f.IF := rfl
@[simp] theorem Flags.setArithKeepCF_DF (f : Flags) (a : ArithFlags) : (f.setArithKeepCF a).DF = f.DF := rfl

/-- `LOGIC_AF` = zero (R138). -/
@[simp] theorem State.logicAf_zero (h : s.params.logicAf = .zero) : s.logicAf = false := by
  simp [State.logicAf, h]
@[simp] theorem State.logicDraws_zero (h : s.params.logicAf = .zero) : s.logicDraws = 0 := by
  simp [State.logicDraws, h]
/-- `BCD_SIDE_FLAGS` as the rules say (R314, R315): OF is left. -/
@[simp] theorem State.decimalOf_asRules (h : s.params.bcdSideFlags = .asRules) : s.decimalOf = s.flags.OF := by
  simp [State.decimalOf, h]
@[simp] theorem State.decimalDraws_asRules (h : s.params.bcdSideFlags = .asRules) : s.decimalDraws = 0 := by
  simp [State.decimalDraws, h]
/-- `BCD_SIDE_FLAGS` as the rules say (R316, R317): only AF and CF are written. -/
@[simp] theorem State.asciiFlags_asRules (h : s.params.bcdSideFlags = .asRules) (b : Bool) :
    s.asciiFlags b = { s.flags with AF := b, CF := b } := by
  simp [State.asciiFlags, h]
@[simp] theorem State.asciiDraws_asRules (h : s.params.bcdSideFlags = .asRules) : s.asciiDraws = 0 := by
  simp [State.asciiDraws, h]

/-- What DAA and DAS, and AAA and AAS, do to the flags under every setting (R314 to R318). -/
@[simp] theorem State.decimalFlags_TF (q : Byte × Bool × Bool) : (s.decimalFlags q).TF = s.flags.TF := rfl
@[simp] theorem State.decimalFlags_IF (q : Byte × Bool × Bool) : (s.decimalFlags q).IF = s.flags.IF := rfl
@[simp] theorem State.decimalFlags_DF (q : Byte × Bool × Bool) : (s.decimalFlags q).DF = s.flags.DF := rfl
@[simp] theorem State.asciiFlags_TF (b : Bool) : (s.asciiFlags b).TF = s.flags.TF := by
  unfold State.asciiFlags
  split <;> rfl
@[simp] theorem State.asciiFlags_IF (b : Bool) : (s.asciiFlags b).IF = s.flags.IF := by
  unfold State.asciiFlags
  split <;> rfl
@[simp] theorem State.asciiFlags_DF (b : Bool) : (s.asciiFlags b).DF = s.flags.DF := by
  unfold State.asciiFlags
  split <;> rfl
@[simp] theorem State.asciiFlags_AF (b : Bool) : (s.asciiFlags b).AF = b := by
  unfold State.asciiFlags
  split <;> rfl
@[simp] theorem State.asciiFlags_CF (b : Bool) : (s.asciiFlags b).CF = b := by
  unfold State.asciiFlags
  split <;> rfl

end Sys2Proof.Machine
end

