-- ==== Sys2Proof/Laws/Operands.lean ====
section
/-! SUPPORT. What reading and writing an `E` operand does (R168, R169), by the kind of operand, and where the parsed address of a
memory operand lies (R162, R164). -/

namespace Sys2Proof.Machine

variable (s : State)

@[simp] theorem State.readE8_reg (r : Reg8) : s.readE8 (.reg r) = s.get8 r := rfl
@[simp] theorem State.readE16_reg (r : Reg16) : s.readE16 (.reg r) = s.get16 r := rfl
@[simp] theorem State.readE8_mem (a : MemAddr) : s.readE8 (.mem a) = s.read8 s.tr.seg s.tr.off := rfl
@[simp] theorem State.readE16_mem (a : MemAddr) : s.readE16 (.mem a) = s.read16 s.tr.seg s.tr.off := rfl

@[simp] theorem State.writeE8_reg (r : Reg8) (v : Byte) : s.writeE8 (.reg r) v = s.set8 r v := rfl
@[simp] theorem State.writeE16_reg (r : Reg16) (v : Word) : s.writeE16 (.reg r) v = s.set16 r v := rfl
@[simp] theorem State.writeE8_mem (a : MemAddr) (v : Byte) : s.writeE8 (.mem a) v = s.write8 s.tr.seg s.tr.off v := rfl
@[simp] theorem State.writeE16_mem (a : MemAddr) (v : Word) : s.writeE16 (.mem a) v = s.write16 s.tr.seg s.tr.off v :=
  rfl

/-- The transient fields after the parse of a memory operand (R160, R162, R164). -/
@[simp] theorem State.parse8_tr_mem (g : BitVec 3) (a : MemAddr) :
    (s.parse8 g (.mem a)).tr =
      { s.tr with
        mod := a.modCode, reg := g, rm := a.rmCode, seg := s.operandSeg (defaultSeg a),
        off := effectiveOffset s.regs a, ea := phys (s.operandSeg (defaultSeg a)) (effectiveOffset s.regs a) } := rfl

@[simp] theorem State.parse16_tr_mem (g : BitVec 3) (a : MemAddr) :
    (s.parse16 g (.mem a)).tr =
      { s.tr with
        mod := a.modCode, reg := g, rm := a.rmCode, seg := s.operandSeg (defaultSeg a),
        off := effectiveOffset s.regs a, ea := phys (s.operandSeg (defaultSeg a)) (effectiveOffset s.regs a) } := rfl

/-- A register operand leaves `seg`, `off` and `ea` (R161). -/
@[simp] theorem State.parse8_tr_reg (g : BitVec 3) (r : Reg8) :
    (s.parse8 g (.reg r)).tr = { s.tr with mod := 3#2, reg := g, rm := r.code } := rfl

@[simp] theorem State.parse16_tr_reg (g : BitVec 3) (r : Reg16) :
    (s.parse16 g (.reg r)).tr = { s.tr with mod := 3#2, reg := g, rm := r.code } := rfl

/-- R168 after R160: the value of an `E` operand is that of the state before the parse. -/
theorem State.readE8_parse (g : BitVec 3) (e : Operand Reg8) :
    (s.parse8 g e).readE8 e =
      match e with
      | .reg r => s.get8 r
      | .mem a => s.read8 (s.operandSeg (defaultSeg a)) (effectiveOffset s.regs a) := by
  cases e <;> rfl

theorem State.readE16_parse (g : BitVec 3) (e : Operand Reg16) :
    (s.parse16 g e).readE16 e =
      match e with
      | .reg r => s.get16 r
      | .mem a => s.read16 (s.operandSeg (defaultSeg a)) (effectiveOffset s.regs a) := by
  cases e <;> rfl

/-- A write to an `E` operand keeps the canonical form of memory. -/
theorem State.wf_writeE8 {s : State} (e : Operand Reg8) (v : Byte) (h : s.mem.wf = true) :
    (s.writeE8 e v).mem.wf = true := by
  cases e with
  | reg r => exact h
  | mem a => exact Memory.wf_write8 _ _ _ h

theorem State.wf_writeE16 {s : State} (e : Operand Reg16) (v : Word) (h : s.mem.wf = true) :
    (s.writeE16 e v).mem.wf = true := by
  cases e with
  | reg r => exact h
  | mem a => exact Memory.wf_write16 _ _ _ h

end Sys2Proof.Machine

namespace Sys2Proof.Machine

/-- The bytes of a stored word read back, low byte first (R64). -/
@[simp] theorem Memory.read8_write16_low (m : Memory) (seg off v : Word) :
    (m.write16 seg off v).read8 seg off = lowByte v := by
  unfold Memory.write16 Memory.read8 Memory.write8
  rw [Memory.read_write_other _ _ (phys_succ_ne seg off).symm, Memory.read_write_same]

@[simp] theorem Memory.read8_write16_high (m : Memory) (seg off v : Word) :
    (m.write16 seg off v).read8 seg (off + 1#16) = highByte v := by
  unfold Memory.write16
  simp

@[simp] theorem Memory.read16_write16_same (m : Memory) (seg off v : Word) :
    (m.write16 seg off v).read16 seg off = v := by
  simp [Memory.read16]

end Sys2Proof.Machine
end

