-- ==== Sys2Proof/Laws/Exec.lean ====
section
/-! SUPPORT. What an instruction can do at most, said once: every instruction is of one of five kinds, and a step does what its
instruction does. Whole-machine claims cite these instead of unfolding the meanings. -/

namespace Sys2Proof.Machine

/-- What an instruction that is no prefix, no jump and not HLT leaves: segment registers, control flags, IP, the pending
prefixes, budget, halt bit and parameters; and it keeps the canonical form of memory (R26, R31, R33). -/
structure Plain (s t : State) : Prop where
  sregs : t.sregs = s.sregs
  TF : t.flags.TF = s.flags.TF
  IF : t.flags.IF = s.flags.IF
  DF : t.flags.DF = s.flags.DF
  ip : t.ip = s.ip
  segOverride : t.tr.segOverride = s.tr.segOverride
  rep : t.tr.rep = s.tr.rep
  budget : t.budget = s.budget
  halted : t.halted = s.halted
  params : t.params = s.params
  memory : s.mem.wf = true → t.mem.wf = true

/-- The relative jumps (R33). -/
def isRelJump : Instr → Bool
  | .joRel8 _ | .jnoRel8 _ | .jbRel8 _ | .jnbRel8 _ | .jzRel8 _ | .jnzRel8 _ | .jbeRel8 _ | .jaRel8 _ | .jsRel8 _
  | .jnsRel8 _ | .jpeRel8 _ | .jpoRel8 _ | .jlRel8 _ | .jgeRel8 _ | .jleRel8 _ | .jgRel8 _ | .jmpRel8 _ => true
  | _ => false

/-! ### The shared meanings -/

section Shared

variable (s : State)

theorem Plain.rfl_of : Plain s s := ⟨rfl, rfl, rfl, rfl, rfl, rfl, rfl, rfl, rfl, rfl, id⟩

theorem aluEbGb_plain (k : AluOp) (g : Reg8) (e : Operand Reg8) : ∃ t, aluEbGb k g e s = .next t ∧ Plain s t := by
  refine ⟨_, rfl, ?_⟩
  split
  · constructor <;> try simp
    exact fun h => State.wf_writeE8 _ _ (by simpa using h)
  · constructor <;> simp

theorem aluEvGv_plain (k : AluOp) (g : Reg16) (e : Operand Reg16) : ∃ t, aluEvGv k g e s = .next t ∧ Plain s t := by
  refine ⟨_, rfl, ?_⟩
  split
  · constructor <;> try simp
    exact fun h => State.wf_writeE16 _ _ (by simpa using h)
  · constructor <;> simp

theorem aluGbEb_plain (k : AluOp) (g : Reg8) (e : Operand Reg8) : ∃ t, aluGbEb k g e s = .next t ∧ Plain s t := by
  refine ⟨_, rfl, ?_⟩
  split <;> constructor <;> simp

theorem aluGvEv_plain (k : AluOp) (g : Reg16) (e : Operand Reg16) : ∃ t, aluGvEv k g e s = .next t ∧ Plain s t := by
  refine ⟨_, rfl, ?_⟩
  split <;> constructor <;> simp

theorem aluALIb_plain (k : AluOp) (imm : Byte) : ∃ t, aluALIb k imm s = .next t ∧ Plain s t := by
  refine ⟨_, rfl, ?_⟩
  split <;> constructor <;> simp

theorem aluAXIv_plain (k : AluOp) (imm : Word) : ∃ t, aluAXIv k imm s = .next t ∧ Plain s t := by
  refine ⟨_, rfl, ?_⟩
  split <;> constructor <;> simp

theorem group1EbIb_plain (k : AluOp) (e : Operand Reg8) (imm : Byte) :
    ∃ t, group1EbIb k e imm s = .next t ∧ Plain s t := by
  refine ⟨_, rfl, ?_⟩
  split
  · constructor <;> try simp
    exact fun h => State.wf_writeE8 _ _ (by simpa using h)
  · constructor <;> simp

theorem group1EvIv_plain (k : AluOp) (e : Operand Reg16) (imm : Word) :
    ∃ t, group1EvIv k e imm s = .next t ∧ Plain s t := by
  refine ⟨_, rfl, ?_⟩
  split
  · constructor <;> try simp
    exact fun h => State.wf_writeE16 _ _ (by simpa using h)
  · constructor <;> simp

theorem group1EvIbSext_plain (k : AluOp) (e : Operand Reg16) (imm : Byte) :
    ∃ t, group1EvIbSext k e imm s = .next t ∧ Plain s t :=
  group1EvIv_plain s k e (sext16 imm)

theorem testOp8_plain (g : Reg8) (e : Operand Reg8) : ∃ t, testOp8 g e s = .next t ∧ Plain s t := by
  refine ⟨_, rfl, ?_⟩
  constructor <;> simp

theorem testOp16_plain (g : Reg16) (e : Operand Reg16) : ∃ t, testOp16 g e s = .next t ∧ Plain s t := by
  refine ⟨_, rfl, ?_⟩
  constructor <;> simp

theorem incReg_plain (r : Reg16) : ∃ t, incReg r s = .next t ∧ Plain s t :=
  ⟨_, rfl, ⟨rfl, rfl, rfl, rfl, rfl, rfl, rfl, rfl, rfl, rfl, id⟩⟩

theorem decReg_plain (r : Reg16) : ∃ t, decReg r s = .next t ∧ Plain s t :=
  ⟨_, rfl, ⟨rfl, rfl, rfl, rfl, rfl, rfl, rfl, rfl, rfl, rfl, id⟩⟩

theorem daaOp_plain : ∃ t, daaOp s = .next t ∧ Plain s t :=
  ⟨_, rfl, ⟨rfl, rfl, rfl, rfl, rfl, rfl, rfl, rfl, rfl, rfl, id⟩⟩

theorem dasOp_plain : ∃ t, dasOp s = .next t ∧ Plain s t :=
  ⟨_, rfl, ⟨rfl, rfl, rfl, rfl, rfl, rfl, rfl, rfl, rfl, rfl, id⟩⟩

theorem aaaOp_plain : ∃ t, aaaOp s = .next t ∧ Plain s t := by
  refine ⟨_, rfl, ?_⟩
  constructor <;> simp

theorem aasOp_plain : ∃ t, aasOp s = .next t ∧ Plain s t := by
  refine ⟨_, rfl, ?_⟩
  constructor <;> simp

theorem movReg8_plain (r : Reg8) (imm : Byte) : ∃ t, movReg8 r imm s = .next t ∧ Plain s t :=
  ⟨_, rfl, ⟨rfl, rfl, rfl, rfl, rfl, rfl, rfl, rfl, rfl, rfl, id⟩⟩

theorem movReg16_plain (r : Reg16) (imm : Word) : ∃ t, movReg16 r imm s = .next t ∧ Plain s t :=
  ⟨_, rfl, ⟨rfl, rfl, rfl, rfl, rfl, rfl, rfl, rfl, rfl, rfl, id⟩⟩

theorem loadAL_plain (ow : Word) : ∃ t, loadAL ow s = .next t ∧ Plain s t :=
  ⟨_, rfl, ⟨rfl, rfl, rfl, rfl, rfl, rfl, rfl, rfl, rfl, rfl, id⟩⟩

theorem loadAX_plain (ow : Word) : ∃ t, loadAX ow s = .next t ∧ Plain s t :=
  ⟨_, rfl, ⟨rfl, rfl, rfl, rfl, rfl, rfl, rfl, rfl, rfl, rfl, id⟩⟩

theorem storeAL_plain (ow : Word) : ∃ t, storeAL ow s = .next t ∧ Plain s t :=
  ⟨_, rfl, ⟨rfl, rfl, rfl, rfl, rfl, rfl, rfl, rfl, rfl, rfl, Memory.wf_write8 _ _ _⟩⟩

theorem storeAX_plain (ow : Word) : ∃ t, storeAX ow s = .next t ∧ Plain s t :=
  ⟨_, rfl, ⟨rfl, rfl, rfl, rfl, rfl, rfl, rfl, rfl, rfl, rfl, Memory.wf_write16 _ _ _⟩⟩

theorem xchgOp8_plain (g : Reg8) (e : Operand Reg8) : ∃ t, xchgOp8 g e s = .next t ∧ Plain s t := by
  refine ⟨_, rfl, ?_⟩
  constructor <;> try simp
  exact fun h => State.wf_writeE8 _ _ (by simpa using h)

theorem xchgOp16_plain (g : Reg16) (e : Operand Reg16) : ∃ t, xchgOp16 g e s = .next t ∧ Plain s t := by
  refine ⟨_, rfl, ?_⟩
  constructor <;> try simp
  exact fun h => State.wf_writeE16 _ _ (by simpa using h)

theorem xchgAXReg_plain (r : Reg16) : ∃ t, xchgAXReg r s = .next t ∧ Plain s t :=
  ⟨_, rfl, ⟨rfl, rfl, rfl, rfl, rfl, rfl, rfl, rfl, rfl, rfl, id⟩⟩

theorem pushReg_plain (r : Reg16) : ∃ t, pushReg r s = .next t ∧ Plain s t :=
  ⟨_, rfl, ⟨rfl, rfl, rfl, rfl, rfl, rfl, rfl, rfl, rfl, rfl, Memory.wf_write16 _ _ _⟩⟩

theorem popReg_plain (r : Reg16) : ∃ t, popReg r s = .next t ∧ Plain s t :=
  ⟨_, rfl, ⟨rfl, rfl, rfl, rfl, rfl, rfl, rfl, rfl, rfl, rfl, id⟩⟩

theorem jumpIf_jumps (c : Cond) (d : Byte) : ∃ t, jumpIf c d s = .next t ∧ t = { s with ip := t.ip } := by
  refine ⟨_, rfl, ?_⟩
  split <;> rfl

end Shared

/-! ### Every instruction -/

/-- The five kinds of instruction, with all that one of the kind can do. -/
inductive Acts (i : Instr) (s : State) : Prop where
  | plain (t : State) (e : exec i s = .next t) (p : Plain s t) (np : i.isPrefix = false) (nh : i ≠ .hlt)
      (nj : isRelJump i = false)
  | jump (t : State) (e : exec i s = .next t) (p : t = { s with ip := t.ip }) (np : i.isPrefix = false) (nh : i ≠ .hlt)
      (j : isRelJump i = true)
  | override (r : SegReg) (e : exec i s = .next { s with tr := { s.tr with seg := s.getSeg r, segOverride := true } })
      (p : i.isPrefix = true)
  | repeats (r : Rep) (e : exec i s = .next { s with tr := { s.tr with rep := r } }) (p : i.isPrefix = true)
  | halt (h : i = .hlt) (e : exec i s = .next { s with halted := true })
  | uncovered (b : Byte) (h : encode i = [b]) (e : exec i s = .refused (.uncoveredOpcode b (s.getSeg .cs) (s.ip - 1#16)))

/-- An instruction whose meaning is a plain one. -/
theorem Acts.ofPlain {i : Instr} {s : State} (h : ∃ t, exec i s = .next t ∧ Plain s t) (np : i.isPrefix = false)
    (nh : i ≠ .hlt) (nj : isRelJump i = false) : Acts i s :=
  h.elim fun t h => .plain t h.1 h.2 np nh nj

theorem exec_acts (i : Instr) (s : State) : Acts i s := by
  cases i with
  | addEbGb g e => exact .ofPlain (aluEbGb_plain s .add g e) rfl (by simp) rfl
  | addEvGv g e => exact .ofPlain (aluEvGv_plain s .add g e) rfl (by simp) rfl
  | addGbEb g e => exact .ofPlain (aluGbEb_plain s .add g e) rfl (by simp) rfl
  | addGvEv g e => exact .ofPlain (aluGvEv_plain s .add g e) rfl (by simp) rfl
  | addALIb imm => exact .ofPlain (aluALIb_plain s .add imm) rfl (by simp) rfl
  | addAXIv imm => exact .ofPlain (aluAXIv_plain s .add imm) rfl (by simp) rfl
  | pushES => exact .uncovered _ rfl rfl
  | popES => exact .uncovered _ rfl rfl
  | orEbGb g e => exact .ofPlain (aluEbGb_plain s .or g e) rfl (by simp) rfl
  | orEvGv g e => exact .ofPlain (aluEvGv_plain s .or g e) rfl (by simp) rfl
  | orGbEb g e => exact .ofPlain (aluGbEb_plain s .or g e) rfl (by simp) rfl
  | orGvEv g e => exact .ofPlain (aluGvEv_plain s .or g e) rfl (by simp) rfl
  | orALIb imm => exact .ofPlain (aluALIb_plain s .or imm) rfl (by simp) rfl
  | orAXIv imm => exact .ofPlain (aluAXIv_plain s .or imm) rfl (by simp) rfl
  | pushCS => exact .uncovered _ rfl rfl
  | undef0F => exact .ofPlain ⟨s, rfl, Plain.rfl_of s⟩ rfl (by simp) rfl
  | adcEbGb g e => exact .ofPlain (aluEbGb_plain s .adc g e) rfl (by simp) rfl
  | adcEvGv g e => exact .ofPlain (aluEvGv_plain s .adc g e) rfl (by simp) rfl
  | adcGbEb g e => exact .ofPlain (aluGbEb_plain s .adc g e) rfl (by simp) rfl
  | adcGvEv g e => exact .ofPlain (aluGvEv_plain s .adc g e) rfl (by simp) rfl
  | adcALIb imm => exact .ofPlain (aluALIb_plain s .adc imm) rfl (by simp) rfl
  | adcAXIv imm => exact .ofPlain (aluAXIv_plain s .adc imm) rfl (by simp) rfl
  | pushSS => exact .uncovered _ rfl rfl
  | popSS => exact .uncovered _ rfl rfl
  | sbbEbGb g e => exact .ofPlain (aluEbGb_plain s .sbb g e) rfl (by simp) rfl
  | sbbEvGv g e => exact .ofPlain (aluEvGv_plain s .sbb g e) rfl (by simp) rfl
  | sbbGbEb g e => exact .ofPlain (aluGbEb_plain s .sbb g e) rfl (by simp) rfl
  | sbbGvEv g e => exact .ofPlain (aluGvEv_plain s .sbb g e) rfl (by simp) rfl
  | sbbALIb imm => exact .ofPlain (aluALIb_plain s .sbb imm) rfl (by simp) rfl
  | sbbAXIv imm => exact .ofPlain (aluAXIv_plain s .sbb imm) rfl (by simp) rfl
  | pushDS => exact .uncovered _ rfl rfl
  | popDS => exact .uncovered _ rfl rfl
  | andEbGb g e => exact .ofPlain (aluEbGb_plain s .and g e) rfl (by simp) rfl
  | andEvGv g e => exact .ofPlain (aluEvGv_plain s .and g e) rfl (by simp) rfl
  | andGbEb g e => exact .ofPlain (aluGbEb_plain s .and g e) rfl (by simp) rfl
  | andGvEv g e => exact .ofPlain (aluGvEv_plain s .and g e) rfl (by simp) rfl
  | andALIb imm => exact .ofPlain (aluALIb_plain s .and imm) rfl (by simp) rfl
  | andAXIv imm => exact .ofPlain (aluAXIv_plain s .and imm) rfl (by simp) rfl
  | prefixES => exact .override .es rfl rfl
  | daa => exact .ofPlain (daaOp_plain s) rfl (by simp) rfl
  | subEbGb g e => exact .ofPlain (aluEbGb_plain s .sub g e) rfl (by simp) rfl
  | subEvGv g e => exact .ofPlain (aluEvGv_plain s .sub g e) rfl (by simp) rfl
  | subGbEb g e => exact .ofPlain (aluGbEb_plain s .sub g e) rfl (by simp) rfl
  | subGvEv g e => exact .ofPlain (aluGvEv_plain s .sub g e) rfl (by simp) rfl
  | subALIb imm => exact .ofPlain (aluALIb_plain s .sub imm) rfl (by simp) rfl
  | subAXIv imm => exact .ofPlain (aluAXIv_plain s .sub imm) rfl (by simp) rfl
  | prefixCS => exact .override .cs rfl rfl
  | das => exact .ofPlain (dasOp_plain s) rfl (by simp) rfl
  | xorEbGb g e => exact .ofPlain (aluEbGb_plain s .xor g e) rfl (by simp) rfl
  | xorEvGv g e => exact .ofPlain (aluEvGv_plain s .xor g e) rfl (by simp) rfl
  | xorGbEb g e => exact .ofPlain (aluGbEb_plain s .xor g e) rfl (by simp) rfl
  | xorGvEv g e => exact .ofPlain (aluGvEv_plain s .xor g e) rfl (by simp) rfl
  | xorALIb imm => exact .ofPlain (aluALIb_plain s .xor imm) rfl (by simp) rfl
  | xorAXIv imm => exact .ofPlain (aluAXIv_plain s .xor imm) rfl (by simp) rfl
  | prefixSS => exact .override .ss rfl rfl
  | aaa => exact .ofPlain (aaaOp_plain s) rfl (by simp) rfl
  | cmpEbGb g e => exact .ofPlain (aluEbGb_plain s .cmp g e) rfl (by simp) rfl
  | cmpEvGv g e => exact .ofPlain (aluEvGv_plain s .cmp g e) rfl (by simp) rfl
  | cmpGbEb g e => exact .ofPlain (aluGbEb_plain s .cmp g e) rfl (by simp) rfl
  | cmpGvEv g e => exact .ofPlain (aluGvEv_plain s .cmp g e) rfl (by simp) rfl
  | cmpALIb imm => exact .ofPlain (aluALIb_plain s .cmp imm) rfl (by simp) rfl
  | cmpAXIv imm => exact .ofPlain (aluAXIv_plain s .cmp imm) rfl (by simp) rfl
  | prefixDS => exact .override .ds rfl rfl
  | aas => exact .ofPlain (aasOp_plain s) rfl (by simp) rfl
  | incAX => exact .ofPlain (incReg_plain s .ax) rfl (by simp) rfl
  | incCX => exact .ofPlain (incReg_plain s .cx) rfl (by simp) rfl
  | incDX => exact .ofPlain (incReg_plain s .dx) rfl (by simp) rfl
  | incBX => exact .ofPlain (incReg_plain s .bx) rfl (by simp) rfl
  | incSP => exact .ofPlain (incReg_plain s .sp) rfl (by simp) rfl
  | incBP => exact .ofPlain (incReg_plain s .bp) rfl (by simp) rfl
  | incSI => exact .ofPlain (incReg_plain s .si) rfl (by simp) rfl
  | incDI => exact .ofPlain (incReg_plain s .di) rfl (by simp) rfl
  | decAX => exact .ofPlain (decReg_plain s .ax) rfl (by simp) rfl
  | decCX => exact .ofPlain (decReg_plain s .cx) rfl (by simp) rfl
  | decDX => exact .ofPlain (decReg_plain s .dx) rfl (by simp) rfl
  | decBX => exact .ofPlain (decReg_plain s .bx) rfl (by simp) rfl
  | decSP => exact .ofPlain (decReg_plain s .sp) rfl (by simp) rfl
  | decBP => exact .ofPlain (decReg_plain s .bp) rfl (by simp) rfl
  | decSI => exact .ofPlain (decReg_plain s .si) rfl (by simp) rfl
  | decDI => exact .ofPlain (decReg_plain s .di) rfl (by simp) rfl
  | pushAX => exact .ofPlain (pushReg_plain s .ax) rfl (by simp) rfl
  | pushCX => exact .ofPlain (pushReg_plain s .cx) rfl (by simp) rfl
  | pushDX => exact .ofPlain (pushReg_plain s .dx) rfl (by simp) rfl
  | pushBX => exact .ofPlain (pushReg_plain s .bx) rfl (by simp) rfl
  | pushSP => exact .ofPlain (pushReg_plain s .sp) rfl (by simp) rfl
  | pushBP => exact .ofPlain (pushReg_plain s .bp) rfl (by simp) rfl
  | pushSI => exact .ofPlain (pushReg_plain s .si) rfl (by simp) rfl
  | pushDI => exact .ofPlain (pushReg_plain s .di) rfl (by simp) rfl
  | popAX => exact .ofPlain (popReg_plain s .ax) rfl (by simp) rfl
  | popCX => exact .ofPlain (popReg_plain s .cx) rfl (by simp) rfl
  | popDX => exact .ofPlain (popReg_plain s .dx) rfl (by simp) rfl
  | popBX => exact .ofPlain (popReg_plain s .bx) rfl (by simp) rfl
  | popSP => exact .ofPlain (popReg_plain s .sp) rfl (by simp) rfl
  | popBP => exact .ofPlain (popReg_plain s .bp) rfl (by simp) rfl
  | popSI => exact .ofPlain (popReg_plain s .si) rfl (by simp) rfl
  | popDI => exact .ofPlain (popReg_plain s .di) rfl (by simp) rfl
  | undef60 => exact .ofPlain ⟨s, rfl, Plain.rfl_of s⟩ rfl (by simp) rfl
  | undef61 => exact .ofPlain ⟨s, rfl, Plain.rfl_of s⟩ rfl (by simp) rfl
  | undef62 => exact .ofPlain ⟨s, rfl, Plain.rfl_of s⟩ rfl (by simp) rfl
  | undef63 => exact .ofPlain ⟨s, rfl, Plain.rfl_of s⟩ rfl (by simp) rfl
  | undef64 => exact .ofPlain ⟨s, rfl, Plain.rfl_of s⟩ rfl (by simp) rfl
  | undef65 => exact .ofPlain ⟨s, rfl, Plain.rfl_of s⟩ rfl (by simp) rfl
  | undef66 => exact .ofPlain ⟨s, rfl, Plain.rfl_of s⟩ rfl (by simp) rfl
  | undef67 => exact .ofPlain ⟨s, rfl, Plain.rfl_of s⟩ rfl (by simp) rfl
  | undef68 => exact .ofPlain ⟨s, rfl, Plain.rfl_of s⟩ rfl (by simp) rfl
  | undef69 => exact .ofPlain ⟨s, rfl, Plain.rfl_of s⟩ rfl (by simp) rfl
  | undef6A => exact .ofPlain ⟨s, rfl, Plain.rfl_of s⟩ rfl (by simp) rfl
  | undef6B => exact .ofPlain ⟨s, rfl, Plain.rfl_of s⟩ rfl (by simp) rfl
  | undef6C => exact .ofPlain ⟨s, rfl, Plain.rfl_of s⟩ rfl (by simp) rfl
  | undef6D => exact .ofPlain ⟨s, rfl, Plain.rfl_of s⟩ rfl (by simp) rfl
  | undef6E => exact .ofPlain ⟨s, rfl, Plain.rfl_of s⟩ rfl (by simp) rfl
  | undef6F => exact .ofPlain ⟨s, rfl, Plain.rfl_of s⟩ rfl (by simp) rfl
  | joRel8 d => exact (jumpIf_jumps s .jo d).elim fun t h => .jump t h.1 h.2 rfl (by simp) rfl
  | jnoRel8 d => exact (jumpIf_jumps s .jno d).elim fun t h => .jump t h.1 h.2 rfl (by simp) rfl
  | jbRel8 d => exact (jumpIf_jumps s .jb d).elim fun t h => .jump t h.1 h.2 rfl (by simp) rfl
  | jnbRel8 d => exact (jumpIf_jumps s .jnb d).elim fun t h => .jump t h.1 h.2 rfl (by simp) rfl
  | jzRel8 d => exact (jumpIf_jumps s .jz d).elim fun t h => .jump t h.1 h.2 rfl (by simp) rfl
  | jnzRel8 d => exact (jumpIf_jumps s .jnz d).elim fun t h => .jump t h.1 h.2 rfl (by simp) rfl
  | jbeRel8 d => exact (jumpIf_jumps s .jbe d).elim fun t h => .jump t h.1 h.2 rfl (by simp) rfl
  | jaRel8 d => exact (jumpIf_jumps s .ja d).elim fun t h => .jump t h.1 h.2 rfl (by simp) rfl
  | jsRel8 d => exact (jumpIf_jumps s .js d).elim fun t h => .jump t h.1 h.2 rfl (by simp) rfl
  | jnsRel8 d => exact (jumpIf_jumps s .jns d).elim fun t h => .jump t h.1 h.2 rfl (by simp) rfl
  | jpeRel8 d => exact (jumpIf_jumps s .jpe d).elim fun t h => .jump t h.1 h.2 rfl (by simp) rfl
  | jpoRel8 d => exact (jumpIf_jumps s .jpo d).elim fun t h => .jump t h.1 h.2 rfl (by simp) rfl
  | jlRel8 d => exact (jumpIf_jumps s .jl d).elim fun t h => .jump t h.1 h.2 rfl (by simp) rfl
  | jgeRel8 d => exact (jumpIf_jumps s .jge d).elim fun t h => .jump t h.1 h.2 rfl (by simp) rfl
  | jleRel8 d => exact (jumpIf_jumps s .jle d).elim fun t h => .jump t h.1 h.2 rfl (by simp) rfl
  | jgRel8 d => exact (jumpIf_jumps s .jg d).elim fun t h => .jump t h.1 h.2 rfl (by simp) rfl
  | addEbIb80 e imm => exact .ofPlain (group1EbIb_plain s .add e imm) rfl (by simp) rfl
  | orEbIb80 e imm => exact .ofPlain (group1EbIb_plain s .or e imm) rfl (by simp) rfl
  | adcEbIb80 e imm => exact .ofPlain (group1EbIb_plain s .adc e imm) rfl (by simp) rfl
  | sbbEbIb80 e imm => exact .ofPlain (group1EbIb_plain s .sbb e imm) rfl (by simp) rfl
  | andEbIb80 e imm => exact .ofPlain (group1EbIb_plain s .and e imm) rfl (by simp) rfl
  | subEbIb80 e imm => exact .ofPlain (group1EbIb_plain s .sub e imm) rfl (by simp) rfl
  | xorEbIb80 e imm => exact .ofPlain (group1EbIb_plain s .xor e imm) rfl (by simp) rfl
  | cmpEbIb80 e imm => exact .ofPlain (group1EbIb_plain s .cmp e imm) rfl (by simp) rfl
  | addEvIv81 e imm => exact .ofPlain (group1EvIv_plain s .add e imm) rfl (by simp) rfl
  | orEvIv81 e imm => exact .ofPlain (group1EvIv_plain s .or e imm) rfl (by simp) rfl
  | adcEvIv81 e imm => exact .ofPlain (group1EvIv_plain s .adc e imm) rfl (by simp) rfl
  | sbbEvIv81 e imm => exact .ofPlain (group1EvIv_plain s .sbb e imm) rfl (by simp) rfl
  | andEvIv81 e imm => exact .ofPlain (group1EvIv_plain s .and e imm) rfl (by simp) rfl
  | subEvIv81 e imm => exact .ofPlain (group1EvIv_plain s .sub e imm) rfl (by simp) rfl
  | xorEvIv81 e imm => exact .ofPlain (group1EvIv_plain s .xor e imm) rfl (by simp) rfl
  | cmpEvIv81 e imm => exact .ofPlain (group1EvIv_plain s .cmp e imm) rfl (by simp) rfl
  | addEbIb82 e imm => exact .ofPlain (group1EbIb_plain s .add e imm) rfl (by simp) rfl
  | orEbIb82 e imm => exact .ofPlain (group1EbIb_plain s .or e imm) rfl (by simp) rfl
  | adcEbIb82 e imm => exact .ofPlain (group1EbIb_plain s .adc e imm) rfl (by simp) rfl
  | sbbEbIb82 e imm => exact .ofPlain (group1EbIb_plain s .sbb e imm) rfl (by simp) rfl
  | andEbIb82 e imm => exact .ofPlain (group1EbIb_plain s .and e imm) rfl (by simp) rfl
  | subEbIb82 e imm => exact .ofPlain (group1EbIb_plain s .sub e imm) rfl (by simp) rfl
  | xorEbIb82 e imm => exact .ofPlain (group1EbIb_plain s .xor e imm) rfl (by simp) rfl
  | cmpEbIb82 e imm => exact .ofPlain (group1EbIb_plain s .cmp e imm) rfl (by simp) rfl
  | addEvIb83 e imm => exact .ofPlain (group1EvIbSext_plain s .add e imm) rfl (by simp) rfl
  | orEvIb83 e imm => exact .ofPlain (group1EvIbSext_plain s .or e imm) rfl (by simp) rfl
  | adcEvIb83 e imm => exact .ofPlain (group1EvIbSext_plain s .adc e imm) rfl (by simp) rfl
  | sbbEvIb83 e imm => exact .ofPlain (group1EvIbSext_plain s .sbb e imm) rfl (by simp) rfl
  | andEvIb83 e imm => exact .ofPlain (group1EvIbSext_plain s .and e imm) rfl (by simp) rfl
  | subEvIb83 e imm => exact .ofPlain (group1EvIbSext_plain s .sub e imm) rfl (by simp) rfl
  | xorEvIb83 e imm => exact .ofPlain (group1EvIbSext_plain s .xor e imm) rfl (by simp) rfl
  | cmpEvIb83 e imm => exact .ofPlain (group1EvIbSext_plain s .cmp e imm) rfl (by simp) rfl
  | testEbGb g e => exact .ofPlain (testOp8_plain s g e) rfl (by simp) rfl
  | testEvGv g e => exact .ofPlain (testOp16_plain s g e) rfl (by simp) rfl
  | xchgEbGb g e => exact .ofPlain (xchgOp8_plain s g e) rfl (by simp) rfl
  | xchgEvGv g e => exact .ofPlain (xchgOp16_plain s g e) rfl (by simp) rfl
  | movEbGb => exact .uncovered _ rfl rfl
  | movEvGv => exact .uncovered _ rfl rfl
  | movGbEb => exact .uncovered _ rfl rfl
  | movGvEv => exact .uncovered _ rfl rfl
  | movEwSw => exact .uncovered _ rfl rfl
  | lea => exact .uncovered _ rfl rfl
  | movSwEw => exact .uncovered _ rfl rfl
  | popEv => exact .uncovered _ rfl rfl
  | nop => exact .ofPlain ⟨s, rfl, Plain.rfl_of s⟩ rfl (by simp) rfl
  | xchgAXCX => exact .ofPlain (xchgAXReg_plain s .cx) rfl (by simp) rfl
  | xchgAXDX => exact .ofPlain (xchgAXReg_plain s .dx) rfl (by simp) rfl
  | xchgAXBX => exact .ofPlain (xchgAXReg_plain s .bx) rfl (by simp) rfl
  | xchgAXSP => exact .ofPlain (xchgAXReg_plain s .sp) rfl (by simp) rfl
  | xchgAXBP => exact .ofPlain (xchgAXReg_plain s .bp) rfl (by simp) rfl
  | xchgAXSI => exact .ofPlain (xchgAXReg_plain s .si) rfl (by simp) rfl
  | xchgAXDI => exact .ofPlain (xchgAXReg_plain s .di) rfl (by simp) rfl
  | cbw => exact .uncovered _ rfl rfl
  | cwd => exact .uncovered _ rfl rfl
  | callFar => exact .uncovered _ rfl rfl
  | wait => exact .uncovered _ rfl rfl
  | pushf => exact .uncovered _ rfl rfl
  | popf => exact .uncovered _ rfl rfl
  | sahf => exact .uncovered _ rfl rfl
  | lahf => exact .uncovered _ rfl rfl
  | movALMem ow => exact .ofPlain (loadAL_plain s ow) rfl (by simp) rfl
  | movAXMem ow => exact .ofPlain (loadAX_plain s ow) rfl (by simp) rfl
  | movMemAL ow => exact .ofPlain (storeAL_plain s ow) rfl (by simp) rfl
  | movMemAX ow => exact .ofPlain (storeAX_plain s ow) rfl (by simp) rfl
  | movsb => exact .uncovered _ rfl rfl
  | movsw => exact .uncovered _ rfl rfl
  | cmpsb => exact .uncovered _ rfl rfl
  | cmpsw => exact .uncovered _ rfl rfl
  | testALIb => exact .uncovered _ rfl rfl
  | testAXIv => exact .uncovered _ rfl rfl
  | stosb => exact .uncovered _ rfl rfl
  | stosw => exact .uncovered _ rfl rfl
  | lodsb => exact .uncovered _ rfl rfl
  | lodsw => exact .uncovered _ rfl rfl
  | scasb => exact .uncovered _ rfl rfl
  | scasw => exact .uncovered _ rfl rfl
  | movALIb imm => exact .ofPlain (movReg8_plain s .al imm) rfl (by simp) rfl
  | movCLIb imm => exact .ofPlain (movReg8_plain s .cl imm) rfl (by simp) rfl
  | movDLIb imm => exact .ofPlain (movReg8_plain s .dl imm) rfl (by simp) rfl
  | movBLIb imm => exact .ofPlain (movReg8_plain s .bl imm) rfl (by simp) rfl
  | movAHIb imm => exact .ofPlain (movReg8_plain s .ah imm) rfl (by simp) rfl
  | movCHIb imm => exact .ofPlain (movReg8_plain s .ch imm) rfl (by simp) rfl
  | movDHIb imm => exact .ofPlain (movReg8_plain s .dh imm) rfl (by simp) rfl
  | movBHIb imm => exact .ofPlain (movReg8_plain s .bh imm) rfl (by simp) rfl
  | movAXIv imm => exact .ofPlain (movReg16_plain s .ax imm) rfl (by simp) rfl
  | movCXIv imm => exact .ofPlain (movReg16_plain s .cx imm) rfl (by simp) rfl
  | movDXIv imm => exact .ofPlain (movReg16_plain s .dx imm) rfl (by simp) rfl
  | movBXIv imm => exact .ofPlain (movReg16_plain s .bx imm) rfl (by simp) rfl
  | movSPIv imm => exact .ofPlain (movReg16_plain s .sp imm) rfl (by simp) rfl
  | movBPIv imm => exact .ofPlain (movReg16_plain s .bp imm) rfl (by simp) rfl
  | movSIIv imm => exact .ofPlain (movReg16_plain s .si imm) rfl (by simp) rfl
  | movDIIv imm => exact .ofPlain (movReg16_plain s .di imm) rfl (by simp) rfl
  | undefC0 => exact .ofPlain ⟨s, rfl, Plain.rfl_of s⟩ rfl (by simp) rfl
  | undefC1 => exact .ofPlain ⟨s, rfl, Plain.rfl_of s⟩ rfl (by simp) rfl
  | retIw => exact .uncovered _ rfl rfl
  | ret => exact .uncovered _ rfl rfl
  | les => exact .uncovered _ rfl rfl
  | lds => exact .uncovered _ rfl rfl
  | movEbIb => exact .uncovered _ rfl rfl
  | movEvIv => exact .uncovered _ rfl rfl
  | undefC8 => exact .ofPlain ⟨s, rfl, Plain.rfl_of s⟩ rfl (by simp) rfl
  | undefC9 => exact .ofPlain ⟨s, rfl, Plain.rfl_of s⟩ rfl (by simp) rfl
  | retfIw => exact .uncovered _ rfl rfl
  | retf => exact .uncovered _ rfl rfl
  | int3 => exact .uncovered _ rfl rfl
  | intIb => exact .uncovered _ rfl rfl
  | into => exact .uncovered _ rfl rfl
  | iret => exact .uncovered _ rfl rfl
  | shiftEb1 => exact .uncovered _ rfl rfl
  | shiftEv1 => exact .uncovered _ rfl rfl
  | shiftEbCL => exact .uncovered _ rfl rfl
  | shiftEvCL => exact .uncovered _ rfl rfl
  | aam => exact .uncovered _ rfl rfl
  | aad => exact .uncovered _ rfl rfl
  | undefD6 => exact .ofPlain ⟨s, rfl, Plain.rfl_of s⟩ rfl (by simp) rfl
  | xlat => exact .uncovered _ rfl rfl
  | escD8 => exact .ofPlain ⟨s, rfl, Plain.rfl_of s⟩ rfl (by simp) rfl
  | escD9 => exact .ofPlain ⟨s, rfl, Plain.rfl_of s⟩ rfl (by simp) rfl
  | escDA => exact .ofPlain ⟨s, rfl, Plain.rfl_of s⟩ rfl (by simp) rfl
  | escDB => exact .ofPlain ⟨s, rfl, Plain.rfl_of s⟩ rfl (by simp) rfl
  | escDC => exact .ofPlain ⟨s, rfl, Plain.rfl_of s⟩ rfl (by simp) rfl
  | escDD => exact .ofPlain ⟨s, rfl, Plain.rfl_of s⟩ rfl (by simp) rfl
  | escDE => exact .ofPlain ⟨s, rfl, Plain.rfl_of s⟩ rfl (by simp) rfl
  | escDF => exact .ofPlain ⟨s, rfl, Plain.rfl_of s⟩ rfl (by simp) rfl
  | loopnz => exact .uncovered _ rfl rfl
  | loopz => exact .uncovered _ rfl rfl
  | loop => exact .uncovered _ rfl rfl
  | jcxz => exact .uncovered _ rfl rfl
  | inALIb => exact .uncovered _ rfl rfl
  | inAXIb => exact .uncovered _ rfl rfl
  | outIbAL => exact .uncovered _ rfl rfl
  | outIbAX => exact .uncovered _ rfl rfl
  | callRel16 => exact .uncovered _ rfl rfl
  | jmpRel16 => exact .uncovered _ rfl rfl
  | jmpFar => exact .uncovered _ rfl rfl
  | jmpRel8 d => exact .jump _ rfl rfl rfl (by simp) rfl
  | inALDX => exact .uncovered _ rfl rfl
  | inAXDX => exact .uncovered _ rfl rfl
  | outDXAL => exact .uncovered _ rfl rfl
  | outDXAX => exact .uncovered _ rfl rfl
  | lock => exact .uncovered _ rfl rfl
  | undefF1 => exact .ofPlain ⟨s, rfl, Plain.rfl_of s⟩ rfl (by simp) rfl
  | repne => exact .repeats .repne rfl rfl
  | rep => exact .repeats .repe rfl rfl
  | hlt => exact .halt rfl rfl
  | cmc => exact .uncovered _ rfl rfl
  | grp3Eb => exact .uncovered _ rfl rfl
  | grp3Ev => exact .uncovered _ rfl rfl
  | clc => exact .uncovered _ rfl rfl
  | stc => exact .uncovered _ rfl rfl
  | cli => exact .uncovered _ rfl rfl
  | sti => exact .uncovered _ rfl rfl
  | cld => exact .uncovered _ rfl rfl
  | std => exact .uncovered _ rfl rfl
  | grp4Eb => exact .uncovered _ rfl rfl
  | grp5Ev => exact .uncovered _ rfl rfl

/-! ### The entries a setting replaces -/

/-- The defaults replace no entry (R6). -/
@[simp] theorem installedAt_default (op : Byte) : installedAt Config.params op = none := by
  simp only [installedAt, show Config.params.haltSet = Config.haltSet from rfl,
    show Config.params.undefSet = Config.undefSet from rfl]
  split <;> [rfl; split <;> simp_all]

theorem installedAt_eq_halt {p : Params} {op : Byte} :
    installedAt p op = some .halt ↔ op ∈ p.haltSet ∧ op ∉ Config.haltSet := by
  unfold installedAt
  split <;> split <;> (try split) <;> simp_all

theorem installedAt_eq_undefined {p : Params} {op : Byte} :
    installedAt p op = some .undefined ↔ op ∉ p.haltSet ∧ op ∈ p.undefSet ∧ op ∉ Config.undefSet := by
  unfold installedAt
  split <;> split <;> (try split) <;> simp_all

theorem installedAt_eq_uncovered {p : Params} {op : Byte} :
    installedAt p op = some .uncovered ↔
      op ∉ p.haltSet ∧ op ∉ p.undefSet ∧ (op ∈ Config.haltSet ∨ op ∈ Config.undefSet) := by
  unfold installedAt
  split <;> split <;> (try split) <;> simp_all

/-- The entries no setting replaces. -/
theorem installedAt_eq_none {p : Params} {op : Byte} :
    installedAt p op = none ↔
      (op ∈ p.haltSet ↔ op ∈ Config.haltSet) ∧ (op ∉ p.haltSet → (op ∈ p.undefSet ↔ op ∈ Config.undefSet)) := by
  have d : op ∈ Config.undefSet → op ∉ Config.haltSet := by
    intro h e
    rw [show op = 0xF4#8 by simpa [Config.haltSet] using e] at h
    exact absurd h (by decide)
  unfold installedAt
  split <;> split <;> (try split) <;> simp_all [Classical.or_iff_not_imp_left]

theorem runInstalled_undefined (s : State) : runInstalled .undefined s = .next (s.advanceIP 1).retire := rfl

theorem runInstalled_halt (s : State) :
    runInstalled .halt s = .next { (s.advanceIP 1).retire with halted := true } := rfl

/-- R199: the one policy. -/
@[simp] theorem refuseUncovered_eq (b : Byte) (s : State) :
    refuseUncovered b s = .refused (.uncoveredOpcode b (s.getSeg .cs) (s.ip - 1#16)) := rfl

/-- The refusal names the IP of the byte (R199). -/
theorem runInstalled_uncovered (s : State) :
    runInstalled .uncovered s = .refused (.uncoveredOpcode s.opcodeByte (s.getSeg .cs) s.ip) := by
  have e : s.ip + BitVec.ofNat 16 1 - 1#16 = s.ip := by simp
  rw [runInstalled, installedOp, refuseUncovered]
  simp only [mapNext, State.advanceIP_ip, e]
  rfl

/-! ### Every step -/

/-- An instruction of the running loop: what `step` does is what its instruction does, IP past its bytes, and then the end
of the iteration (R190). -/
theorem step_decoded {s : State} {i : Instr} {rest : List Byte} (hi : s.idle = false)
    (hp : installedAt s.params s.opcodeByte = none) (hd : decode s.fetchWindow = .ok (i, rest)) :
    step s = runInstr i (maxLength - rest.length) s := by
  simp [step, hi, hp, hd]

/-- A byte whose entry a setting replaces (R6, R198, R200). -/
theorem step_installed {s : State} {h : Installed} (hi : s.idle = false)
    (hp : installedAt s.params s.opcodeByte = some h) : step s = runInstalled h s := by
  simp [step, hi, hp]

/-- All a step of the running loop can be: the handler a setting installs, the instruction at CS:IP, or the refusal of bytes too
few to decode. -/
theorem step_cases {s : State} (hi : s.idle = false) :
    (∃ h, installedAt s.params s.opcodeByte = some h ∧ step s = runInstalled h s) ∨
    (installedAt s.params s.opcodeByte = none ∧
      ((∃ i rest, decode s.fetchWindow = .ok (i, rest) ∧ step s = runInstr i (maxLength - rest.length) s) ∨
        ∃ e, decode s.fetchWindow = .error e ∧ step s = .refused .truncatedFetch)) := by
  cases hp : installedAt s.params s.opcodeByte with
  | some h => exact .inl ⟨h, rfl, step_installed hi hp⟩
  | none =>
    refine .inr ⟨rfl, ?_⟩
    cases hd : decode s.fetchWindow with
    | ok p => exact .inl ⟨p.1, p.2, rfl, step_decoded hi hp hd⟩
    | error e => exact .inr ⟨e, rfl, by simp [step, hi, hp, hd]⟩

theorem step_idle {s : State} (h : s.idle = true) : step s = .next s := by
  simp [step, h]

theorem runInstr_next {s t : State} {i : Instr} {n : Nat} (h : exec i (s.advanceIP n) = .next t) :
    runInstr i n s = .next (t.endIteration i) := by
  simp [runInstr, h, mapNext]

theorem runInstr_refused {s : State} {i : Instr} {n : Nat} {r : Refusal} (h : exec i (s.advanceIP n) = .refused r) :
    runInstr i n s = .refused r := by
  simp [runInstr, h, mapNext]

end Sys2Proof.Machine
end

