-- ==== Sys2Proof/Laws/Flags.lean ====
section
/-! SUPPORT. What the flag kernels compute, in integer arithmetic (R131, R133 to R138, R143), for every width of at least
five bits. -/

namespace Sys2Proof.Machine

variable {w : Nat}

/-! ### The result flags (R131) -/

theorem zeroFlag_iff (r : BitVec w) : zeroFlag r = true ↔ r.toNat = 0 := by
  simp [zeroFlag, BitVec.toNat_eq]

theorem signFlag_iff (r : BitVec w) : signFlag r = true ↔ 2 ^ (w - 1) ≤ r.toNat := by
  rw [signFlag, BitVec.msb_eq_decide, decide_eq_true_iff]

theorem parityFlag_iff (r : BitVec w) :
    parityFlag r = true ↔ (List.range 8).countP (fun i => r.getLsbD i) % 2 = 0 := by
  have e : List.range 8 = [0, 1, 2, 3, 4, 5, 6, 7] := by decide
  have p : popcount (r.setWidth 8) = (List.range 8).countP (fun i => r.getLsbD i) := by
    simp only [popcount, ← BitVec.getLsbD_eq_getElem, BitVec.getLsbD_setWidth, e, List.countP_cons, List.countP_nil]
    simp only [show (0 : Nat) < 8 by omega, show (1 : Nat) < 8 by omega, show (2 : Nat) < 8 by omega,
      show (3 : Nat) < 8 by omega, show (4 : Nat) < 8 by omega, show (5 : Nat) < 8 by omega, show (6 : Nat) < 8 by omega,
      show (7 : Nat) < 8 by omega, decide_true, Bool.true_and, Bool.toNat, cond_eq_ite]
    omega
  rw [parityFlag, beq_iff_eq, p]

/-! ### Addition (R133) -/

theorem addK_eq (d x : BitVec w) (c : Bool) (h : 0 < w) :
    (addK d x c).1 = d + x + (BitVec.ofBool c).setWidth w := by
  apply BitVec.eq_of_toNat_eq
  have e : c.toNat < 2 ^ w := Nat.lt_of_lt_of_le (Bool.toNat_lt c) (Nat.pow_le_pow_right (by omega : 2 > 0) h)
  simp [addK, BitVec.toNat_add, Nat.mod_eq_of_lt e]

theorem addK_toNat (d x : BitVec w) (c : Bool) :
    (addK d x c).1.toNat = (d.toNat + x.toNat + c.toNat) % 2 ^ w := by
  simp [addK]

theorem addK_CF (d x : BitVec w) (c : Bool) : (addK d x c).2.CF = true ↔ 2 ^ w ≤ d.toNat + x.toNat + c.toNat := by
  simp [addK]

theorem addK_AF (d x : BitVec w) (c : Bool) (h : 4 < w) :
    (addK d x c).2.AF = true ↔ 15 < d.toNat % 16 + x.toNat % 16 + c.toNat := by
  have e : (addK d x c).2.AF = adjustFlag d x (d + x + (BitVec.ofBool c).setWidth w) := by
    rw [← addK_eq d x c (by omega)]; rfl
  rw [e, adjustFlag, BitVec.getLsbD_xor, BitVec.getLsbD_xor, BitVec.getLsbD_add_add_bool h]
  have k : (d.getLsbD 4 ^^ x.getLsbD 4 ^^ (d.getLsbD 4 ^^ (x.getLsbD 4 ^^ BitVec.carry 4 d x c)))
      = BitVec.carry 4 d x c := by
    cases d.getLsbD 4 <;> cases x.getLsbD 4 <;> simp
  rw [k]
  simp only [BitVec.carry, decide_eq_true_iff, ge_iff_le]
  omega

theorem addK_OF (d x : BitVec w) (c : Bool) (h : 1 < w) :
    (addK d x c).2.OF = true ↔
      ¬ (-(2 : Int) ^ (w - 1) ≤ d.toInt + x.toInt + c.toNat ∧ d.toInt + x.toInt + c.toNat < (2 : Int) ^ (w - 1)) := by
  have hp : 2 ^ w = 2 * 2 ^ (w - 1) := by
    rw [← Nat.pow_succ', Nat.succ_eq_add_one, Nat.sub_add_cancel (by omega)]
  have hq : (2 : Int) ^ w = 2 * (2 : Int) ^ (w - 1) := by exact_mod_cast hp
  have hd := d.isLt
  have hx := x.isLt
  have hr := addK_toNat d x c
  have hc : c.toNat ≤ 1 := Bool.toNat_le c
  have e : (addK d x c).2.OF = ((d.msb ^^ (addK d x c).1.msb) && (x.msb ^^ (addK d x c).1.msb)) := by
    simp [addK, BitVec.msb_and, BitVec.msb_xor]
  rw [e]
  rw [BitVec.toInt_eq_msb_cond, BitVec.toInt_eq_msb_cond]
  generalize hP : 2 ^ (w - 1) = P at *
  have hP' : (2 : Int) ^ (w - 1) = P := by exact_mod_cast congrArg Nat.cast hP
  have hm : ∀ v : BitVec w, v.msb = decide (P ≤ v.toNat) := fun v => by rw [BitVec.msb_eq_decide, hP]
  rw [hm, hm, hm, hr, hp, hP']
  rw [hp] at hd hx
  have hcast : ((2 ^ w : Nat) : Int) = 2 * P := by rw [hp]; push_cast; ring
  by_cases a : P ≤ d.toNat <;> by_cases b : P ≤ x.toNat <;> simp only [a, b, decide_true, decide_false, if_true]
  all_goals
    by_cases o : d.toNat + x.toNat + c.toNat < 2 * P
    · rw [Nat.mod_eq_of_lt o]
      by_cases q : P ≤ d.toNat + x.toNat + c.toNat <;> simp [q] <;> omega
    · rw [Nat.mod_eq_sub_mod (by omega), Nat.mod_eq_of_lt (by omega)]
      by_cases q : P ≤ d.toNat + x.toNat + c.toNat - 2 * P <;> simp [q] <;> omega

/-! ### Subtraction (R134) -/

theorem subK_toNat (d x : BitVec w) (c : Bool) :
    ((subK d x c).1.toNat : Int) = ((d.toNat : Int) - x.toNat - c.toNat) % 2 ^ w := by
  have h : ((2 : Int) ^ w) ≠ 0 := by positivity
  simp [subK, BitVec.toNat_ofInt, Int.toNat_of_nonneg (Int.emod_nonneg _ h)]

theorem subK_CF (d x : BitVec w) (c : Bool) : (subK d x c).2.CF = true ↔ d.toNat < x.toNat + c.toNat := by
  simp only [subK, decide_eq_true_iff]
  omega

/-- The minuend is the difference plus the subtrahend and the borrow. -/
theorem subK_add (d x : BitVec w) (c : Bool) : (addK (subK d x c).1 x c).1 = d := by
  apply BitVec.eq_of_toNat_eq
  rw [addK_toNat]
  have e := subK_toNat d x c
  have hd := d.isLt
  apply Int.natCast_inj.1
  push_cast
  rw [e]
  rw [Int.add_assoc, Int.emod_add_emod, ← Int.add_assoc]
  rw [show (d.toNat : Int) - x.toNat - c.toNat + x.toNat + c.toNat = d.toNat by ring]
  exact Int.emod_eq_of_lt (by positivity) (by exact_mod_cast hd)

theorem subK_AF (d x : BitVec w) (c : Bool) (h : 4 < w) :
    (subK d x c).2.AF = true ↔ d.toNat % 16 < x.toNat % 16 + c.toNat := by
  have e : (subK d x c).2.AF = (addK (subK d x c).1 x c).2.AF := by
    rw [show (addK (subK d x c).1 x c).2.AF = adjustFlag (subK d x c).1 x (addK (subK d x c).1 x c).1 from rfl,
      subK_add d x c]
    simp only [adjustFlag, subK, BitVec.getLsbD_xor]
    generalize (BitVec.ofInt w _).getLsbD 4 = p
    cases p <;> cases d.getLsbD 4 <;> cases x.getLsbD 4 <;> rfl
  rw [e, addK_AF _ _ _ h]
  have t := subK_toNat d x c
  have p16 : (16 : Int) ∣ 2 ^ w := by
    obtain ⟨k, rfl⟩ := Nat.exists_eq_add_of_le (show 4 ≤ w by omega)
    exact ⟨2 ^ k, by rw [pow_add]; norm_num⟩
  have t16 : (((subK d x c).1.toNat : Int)) % 16 = ((d.toNat : Int) - x.toNat - c.toNat) % 16 := by
    rw [t]; exact Int.emod_emod_of_dvd _ p16
  have hc : c.toNat ≤ 1 := Bool.toNat_le c
  omega

theorem subK_OF (d x : BitVec w) (c : Bool) (h : 1 < w) :
    (subK d x c).2.OF = true ↔
      ¬ (-(2 : Int) ^ (w - 1) ≤ d.toInt - x.toInt - c.toNat ∧ d.toInt - x.toInt - c.toNat < (2 : Int) ^ (w - 1)) := by
  have hp : 2 ^ w = 2 * 2 ^ (w - 1) := by
    rw [← Nat.pow_succ', Nat.succ_eq_add_one, Nat.sub_add_cancel (by omega)]
  have hd := d.isLt
  have hx := x.isLt
  have hr := subK_toNat d x c
  have hl := (subK d x c).1.isLt
  have hc : c.toNat ≤ 1 := Bool.toNat_le c
  have e : (subK d x c).2.OF = ((d.msb ^^ x.msb) && (d.msb ^^ (subK d x c).1.msb)) := by
    simp [subK, BitVec.msb_and, BitVec.msb_xor]
  rw [e, BitVec.toInt_eq_msb_cond, BitVec.toInt_eq_msb_cond]
  generalize hP : 2 ^ (w - 1) = P at *
  have hP' : (2 : Int) ^ (w - 1) = P := by exact_mod_cast congrArg Nat.cast hP
  have hm : ∀ v : BitVec w, v.msb = decide (P ≤ v.toNat) := fun v => by rw [BitVec.msb_eq_decide, hP]
  have hcast : ((2 ^ w : Nat) : Int) = 2 * P := by rw [hp]; push_cast; ring
  have hcast' : (2 : Int) ^ w = 2 * P := by exact_mod_cast hcast
  rw [hm, hm, hm, hP', hcast]
  rw [hcast'] at hr
  rw [hp] at hd hx hl
  generalize (subK d x c).1.toNat = r at *
  have hr' : (r : Int) = d.toNat - x.toNat - c.toNat ∨ (r : Int) = d.toNat - x.toNat - c.toNat + 2 * P := by
    by_cases o : x.toNat + c.toNat ≤ d.toNat
    · left
      rw [hr, Int.emod_eq_of_lt (by omega) (by omega)]
    · right
      rw [hr, ← Int.add_emod_right, Int.emod_eq_of_lt (by omega) (by omega)]
  by_cases a : P ≤ d.toNat <;> by_cases b : P ≤ x.toNat <;> by_cases q : P ≤ r <;> simp [a, b, q] <;> omega

/-! ### The FLAGS word (R27, R28) -/

/-- Bits 0 to 15 of FLAGS, in order: the reserved ones read 1. -/
theorem Flags.getBit_eq (f : Flags) (k : Nat) (h : k < 16) :
    f.getBit k =
      [f.CF, true, f.PF, true, f.AF, true, f.ZF, f.SF, f.TF, f.IF, f.DF, f.OF, true, true, true, true][k] := by
  have e : k = 0 ∨ k = 1 ∨ k = 2 ∨ k = 3 ∨ k = 4 ∨ k = 5 ∨ k = 6 ∨ k = 7 ∨ k = 8 ∨ k = 9 ∨ k = 10 ∨ k = 11 ∨
      k = 12 ∨ k = 13 ∨ k = 14 ∨ k = 15 := by omega
  rcases e with rfl | rfl | rfl | rfl | rfl | rfl | rfl | rfl | rfl | rfl | rfl | rfl | rfl | rfl | rfl | rfl <;>
    simp [Flags.getBit, Flags.word, flagAt]

/-! ### The BCD sequences (R314 to R317) -/

theorem and_0F_toNat (v : Byte) : (v &&& 0x0F#8).toNat = v.toNat % 16 := by
  rw [BitVec.toNat_and]
  exact Nat.and_two_pow_sub_one_eq_mod v.toNat 4

theorem lowAdjust_iff (al : Byte) (af : Bool) : lowAdjust al af = true ↔ 9 < al.toNat % 16 ∨ af = true := by
  rw [lowAdjust, and_0F_toNat]
  simp

theorem highAdjust_iff (al : Byte) (cf : Bool) : highAdjust al cf = true ↔ 0x9F < al.toNat ∨ cf = true := by
  simp [highAdjust]

/-- The byte after the first step of DAA and DAS. -/
def decimalMid (step : Byte → Byte → Byte) (al : Byte) (af : Bool) : Byte :=
  if lowAdjust al af then step al 0x06#8 else al

theorem decimalAdjust_AL (step : Byte → Byte → Byte) (al : Byte) (af cf : Bool) :
    (decimalAdjust step al af cf).1 =
      if highAdjust (decimalMid step al af) cf then step (decimalMid step al af) 0x60#8 else decimalMid step al af := rfl

theorem decimalAdjust_AF (step : Byte → Byte → Byte) (al : Byte) (af cf : Bool) :
    (decimalAdjust step al af cf).2.1 = lowAdjust al af := by
  show (if lowAdjust al af then true else af) = lowAdjust al af
  cases h : lowAdjust al af
  · have := mt (lowAdjust_iff al af).2 (by simp [h])
    rw [not_or] at this
    simpa using this.2
  · rfl

theorem decimalAdjust_CF (step : Byte → Byte → Byte) (al : Byte) (af cf : Bool) :
    (decimalAdjust step al af cf).2.2 = highAdjust (decimalMid step al af) cf := by
  show (if highAdjust (decimalMid step al af) cf then true else cf) = highAdjust (decimalMid step al af) cf
  cases h : highAdjust (decimalMid step al af) cf
  · have := mt (highAdjust_iff (decimalMid step al af) cf).2 (by simp [h])
    rw [not_or] at this
    simpa using this.2
  · rfl

theorem asciiAdjust_fired (step : Byte → Byte → Byte) (al ah : Byte) :
    asciiAdjust step al ah true = (step al 0x06#8 &&& 0x0F#8, step ah 0x01#8) := rfl

theorem asciiAdjust_not_fired (step : Byte → Byte → Byte) (al ah : Byte) :
    asciiAdjust step al ah false = (al &&& 0x0F#8, ah) := rfl

end Sys2Proof.Machine
end

