-- ==== Sys2Proof/Laws/PerInstr.lean ====
section
/-! SUPPORT. Facts about every instruction as syntax, one lemma for each constructor. -/

namespace Sys2Proof.Laws.LengthBound

/-- An encoding is one to six bytes (R90). -/
def Statement (i : Instr) : Prop := 1 ≤ (encode i).length ∧ (encode i).length ≤ 6

/-- Opcode byte, ModR/M byte and displacement. -/
theorem ofModRM {R : Type} (op : Byte) (reg : BitVec 3) (code : R → BitVec 3) (e : Operand R) :
    1 ≤ (op :: encodeModRM reg code e).length ∧ (op :: encodeModRM reg code e).length ≤ 6 := by
  have h := encodeModRM_length reg code e
  simp only [List.length_cons]
  omega

/-- The same with an immediate of at most two bytes. -/
theorem ofModRMImm {R : Type} (op : Byte) (reg : BitVec 3) (code : R → BitVec 3) (e : Operand R) (imm : List Byte)
    (hi : imm.length ≤ 2) :
    1 ≤ (op :: (encodeModRM reg code e ++ imm)).length ∧ (op :: (encodeModRM reg code e ++ imm)).length ≤ 6 := by
  have h := encodeModRM_length reg code e
  simp only [List.length_cons, List.length_append]
  omega

/-- No ModR/M byte. -/
theorem ofBytes (bs : List Byte) (h : (decide (1 ≤ bs.length) && decide (bs.length ≤ 6)) = true) :
    1 ≤ bs.length ∧ bs.length ≤ 6 := by
  simpa using h

theorem addEbGb (g : Reg8) (e : Operand Reg8) : Statement (.addEbGb g e) := ofModRM _ _ _ _
theorem addEvGv (g : Reg16) (e : Operand Reg16) : Statement (.addEvGv g e) := ofModRM _ _ _ _
theorem addGbEb (g : Reg8) (e : Operand Reg8) : Statement (.addGbEb g e) := ofModRM _ _ _ _
theorem addGvEv (g : Reg16) (e : Operand Reg16) : Statement (.addGvEv g e) := ofModRM _ _ _ _
theorem addALIb (imm : Byte) : Statement (.addALIb imm) := ofBytes _ rfl
theorem addAXIv (imm : Word) : Statement (.addAXIv imm) := ofBytes _ rfl
theorem pushES : Statement .pushES := ofBytes _ rfl
theorem popES : Statement .popES := ofBytes _ rfl
theorem orEbGb (g : Reg8) (e : Operand Reg8) : Statement (.orEbGb g e) := ofModRM _ _ _ _
theorem orEvGv (g : Reg16) (e : Operand Reg16) : Statement (.orEvGv g e) := ofModRM _ _ _ _
theorem orGbEb (g : Reg8) (e : Operand Reg8) : Statement (.orGbEb g e) := ofModRM _ _ _ _
theorem orGvEv (g : Reg16) (e : Operand Reg16) : Statement (.orGvEv g e) := ofModRM _ _ _ _
theorem orALIb (imm : Byte) : Statement (.orALIb imm) := ofBytes _ rfl
theorem orAXIv (imm : Word) : Statement (.orAXIv imm) := ofBytes _ rfl
theorem pushCS : Statement .pushCS := ofBytes _ rfl
theorem undef0F : Statement .undef0F := ofBytes _ rfl
theorem adcEbGb (g : Reg8) (e : Operand Reg8) : Statement (.adcEbGb g e) := ofModRM _ _ _ _
theorem adcEvGv (g : Reg16) (e : Operand Reg16) : Statement (.adcEvGv g e) := ofModRM _ _ _ _
theorem adcGbEb (g : Reg8) (e : Operand Reg8) : Statement (.adcGbEb g e) := ofModRM _ _ _ _
theorem adcGvEv (g : Reg16) (e : Operand Reg16) : Statement (.adcGvEv g e) := ofModRM _ _ _ _
theorem adcALIb (imm : Byte) : Statement (.adcALIb imm) := ofBytes _ rfl
theorem adcAXIv (imm : Word) : Statement (.adcAXIv imm) := ofBytes _ rfl
theorem pushSS : Statement .pushSS := ofBytes _ rfl
theorem popSS : Statement .popSS := ofBytes _ rfl
theorem sbbEbGb (g : Reg8) (e : Operand Reg8) : Statement (.sbbEbGb g e) := ofModRM _ _ _ _
theorem sbbEvGv (g : Reg16) (e : Operand Reg16) : Statement (.sbbEvGv g e) := ofModRM _ _ _ _
theorem sbbGbEb (g : Reg8) (e : Operand Reg8) : Statement (.sbbGbEb g e) := ofModRM _ _ _ _
theorem sbbGvEv (g : Reg16) (e : Operand Reg16) : Statement (.sbbGvEv g e) := ofModRM _ _ _ _
theorem sbbALIb (imm : Byte) : Statement (.sbbALIb imm) := ofBytes _ rfl
theorem sbbAXIv (imm : Word) : Statement (.sbbAXIv imm) := ofBytes _ rfl
theorem pushDS : Statement .pushDS := ofBytes _ rfl
theorem popDS : Statement .popDS := ofBytes _ rfl
theorem andEbGb (g : Reg8) (e : Operand Reg8) : Statement (.andEbGb g e) := ofModRM _ _ _ _
theorem andEvGv (g : Reg16) (e : Operand Reg16) : Statement (.andEvGv g e) := ofModRM _ _ _ _
theorem andGbEb (g : Reg8) (e : Operand Reg8) : Statement (.andGbEb g e) := ofModRM _ _ _ _
theorem andGvEv (g : Reg16) (e : Operand Reg16) : Statement (.andGvEv g e) := ofModRM _ _ _ _
theorem andALIb (imm : Byte) : Statement (.andALIb imm) := ofBytes _ rfl
theorem andAXIv (imm : Word) : Statement (.andAXIv imm) := ofBytes _ rfl
theorem prefixES : Statement .prefixES := ofBytes _ rfl
theorem daa : Statement .daa := ofBytes _ rfl
theorem subEbGb (g : Reg8) (e : Operand Reg8) : Statement (.subEbGb g e) := ofModRM _ _ _ _
theorem subEvGv (g : Reg16) (e : Operand Reg16) : Statement (.subEvGv g e) := ofModRM _ _ _ _
theorem subGbEb (g : Reg8) (e : Operand Reg8) : Statement (.subGbEb g e) := ofModRM _ _ _ _
theorem subGvEv (g : Reg16) (e : Operand Reg16) : Statement (.subGvEv g e) := ofModRM _ _ _ _
theorem subALIb (imm : Byte) : Statement (.subALIb imm) := ofBytes _ rfl
theorem subAXIv (imm : Word) : Statement (.subAXIv imm) := ofBytes _ rfl
theorem prefixCS : Statement .prefixCS := ofBytes _ rfl
theorem das : Statement .das := ofBytes _ rfl
theorem xorEbGb (g : Reg8) (e : Operand Reg8) : Statement (.xorEbGb g e) := ofModRM _ _ _ _
theorem xorEvGv (g : Reg16) (e : Operand Reg16) : Statement (.xorEvGv g e) := ofModRM _ _ _ _
theorem xorGbEb (g : Reg8) (e : Operand Reg8) : Statement (.xorGbEb g e) := ofModRM _ _ _ _
theorem xorGvEv (g : Reg16) (e : Operand Reg16) : Statement (.xorGvEv g e) := ofModRM _ _ _ _
theorem xorALIb (imm : Byte) : Statement (.xorALIb imm) := ofBytes _ rfl
theorem xorAXIv (imm : Word) : Statement (.xorAXIv imm) := ofBytes _ rfl
theorem prefixSS : Statement .prefixSS := ofBytes _ rfl
theorem aaa : Statement .aaa := ofBytes _ rfl
theorem cmpEbGb (g : Reg8) (e : Operand Reg8) : Statement (.cmpEbGb g e) := ofModRM _ _ _ _
theorem cmpEvGv (g : Reg16) (e : Operand Reg16) : Statement (.cmpEvGv g e) := ofModRM _ _ _ _
theorem cmpGbEb (g : Reg8) (e : Operand Reg8) : Statement (.cmpGbEb g e) := ofModRM _ _ _ _
theorem cmpGvEv (g : Reg16) (e : Operand Reg16) : Statement (.cmpGvEv g e) := ofModRM _ _ _ _
theorem cmpALIb (imm : Byte) : Statement (.cmpALIb imm) := ofBytes _ rfl
theorem cmpAXIv (imm : Word) : Statement (.cmpAXIv imm) := ofBytes _ rfl
theorem prefixDS : Statement .prefixDS := ofBytes _ rfl
theorem aas : Statement .aas := ofBytes _ rfl
theorem incAX : Statement .incAX := ofBytes _ rfl
theorem incCX : Statement .incCX := ofBytes _ rfl
theorem incDX : Statement .incDX := ofBytes _ rfl
theorem incBX : Statement .incBX := ofBytes _ rfl
theorem incSP : Statement .incSP := ofBytes _ rfl
theorem incBP : Statement .incBP := ofBytes _ rfl
theorem incSI : Statement .incSI := ofBytes _ rfl
theorem incDI : Statement .incDI := ofBytes _ rfl
theorem decAX : Statement .decAX := ofBytes _ rfl
theorem decCX : Statement .decCX := ofBytes _ rfl
theorem decDX : Statement .decDX := ofBytes _ rfl
theorem decBX : Statement .decBX := ofBytes _ rfl
theorem decSP : Statement .decSP := ofBytes _ rfl
theorem decBP : Statement .decBP := ofBytes _ rfl
theorem decSI : Statement .decSI := ofBytes _ rfl
theorem decDI : Statement .decDI := ofBytes _ rfl
theorem pushAX : Statement .pushAX := ofBytes _ rfl
theorem pushCX : Statement .pushCX := ofBytes _ rfl
theorem pushDX : Statement .pushDX := ofBytes _ rfl
theorem pushBX : Statement .pushBX := ofBytes _ rfl
theorem pushSP : Statement .pushSP := ofBytes _ rfl
theorem pushBP : Statement .pushBP := ofBytes _ rfl
theorem pushSI : Statement .pushSI := ofBytes _ rfl
theorem pushDI : Statement .pushDI := ofBytes _ rfl
theorem popAX : Statement .popAX := ofBytes _ rfl
theorem popCX : Statement .popCX := ofBytes _ rfl
theorem popDX : Statement .popDX := ofBytes _ rfl
theorem popBX : Statement .popBX := ofBytes _ rfl
theorem popSP : Statement .popSP := ofBytes _ rfl
theorem popBP : Statement .popBP := ofBytes _ rfl
theorem popSI : Statement .popSI := ofBytes _ rfl
theorem popDI : Statement .popDI := ofBytes _ rfl
theorem undef60 : Statement .undef60 := ofBytes _ rfl
theorem undef61 : Statement .undef61 := ofBytes _ rfl
theorem undef62 : Statement .undef62 := ofBytes _ rfl
theorem undef63 : Statement .undef63 := ofBytes _ rfl
theorem undef64 : Statement .undef64 := ofBytes _ rfl
theorem undef65 : Statement .undef65 := ofBytes _ rfl
theorem undef66 : Statement .undef66 := ofBytes _ rfl
theorem undef67 : Statement .undef67 := ofBytes _ rfl
theorem undef68 : Statement .undef68 := ofBytes _ rfl
theorem undef69 : Statement .undef69 := ofBytes _ rfl
theorem undef6A : Statement .undef6A := ofBytes _ rfl
theorem undef6B : Statement .undef6B := ofBytes _ rfl
theorem undef6C : Statement .undef6C := ofBytes _ rfl
theorem undef6D : Statement .undef6D := ofBytes _ rfl
theorem undef6E : Statement .undef6E := ofBytes _ rfl
theorem undef6F : Statement .undef6F := ofBytes _ rfl
theorem joRel8 (d : Byte) : Statement (.joRel8 d) := ofBytes _ rfl
theorem jnoRel8 (d : Byte) : Statement (.jnoRel8 d) := ofBytes _ rfl
theorem jbRel8 (d : Byte) : Statement (.jbRel8 d) := ofBytes _ rfl
theorem jnbRel8 (d : Byte) : Statement (.jnbRel8 d) := ofBytes _ rfl
theorem jzRel8 (d : Byte) : Statement (.jzRel8 d) := ofBytes _ rfl
theorem jnzRel8 (d : Byte) : Statement (.jnzRel8 d) := ofBytes _ rfl
theorem jbeRel8 (d : Byte) : Statement (.jbeRel8 d) := ofBytes _ rfl
theorem jaRel8 (d : Byte) : Statement (.jaRel8 d) := ofBytes _ rfl
theorem jsRel8 (d : Byte) : Statement (.jsRel8 d) := ofBytes _ rfl
theorem jnsRel8 (d : Byte) : Statement (.jnsRel8 d) := ofBytes _ rfl
theorem jpeRel8 (d : Byte) : Statement (.jpeRel8 d) := ofBytes _ rfl
theorem jpoRel8 (d : Byte) : Statement (.jpoRel8 d) := ofBytes _ rfl
theorem jlRel8 (d : Byte) : Statement (.jlRel8 d) := ofBytes _ rfl
theorem jgeRel8 (d : Byte) : Statement (.jgeRel8 d) := ofBytes _ rfl
theorem jleRel8 (d : Byte) : Statement (.jleRel8 d) := ofBytes _ rfl
theorem jgRel8 (d : Byte) : Statement (.jgRel8 d) := ofBytes _ rfl
theorem addEbIb80 (e : Operand Reg8) (imm : Byte) : Statement (.addEbIb80 e imm) :=
  ofModRMImm _ _ _ _ _ (Nat.le_succ 1)
theorem orEbIb80 (e : Operand Reg8) (imm : Byte) : Statement (.orEbIb80 e imm) := ofModRMImm _ _ _ _ _ (Nat.le_succ 1)
theorem adcEbIb80 (e : Operand Reg8) (imm : Byte) : Statement (.adcEbIb80 e imm) :=
  ofModRMImm _ _ _ _ _ (Nat.le_succ 1)
theorem sbbEbIb80 (e : Operand Reg8) (imm : Byte) : Statement (.sbbEbIb80 e imm) :=
  ofModRMImm _ _ _ _ _ (Nat.le_succ 1)
theorem andEbIb80 (e : Operand Reg8) (imm : Byte) : Statement (.andEbIb80 e imm) :=
  ofModRMImm _ _ _ _ _ (Nat.le_succ 1)
theorem subEbIb80 (e : Operand Reg8) (imm : Byte) : Statement (.subEbIb80 e imm) :=
  ofModRMImm _ _ _ _ _ (Nat.le_succ 1)
theorem xorEbIb80 (e : Operand Reg8) (imm : Byte) : Statement (.xorEbIb80 e imm) :=
  ofModRMImm _ _ _ _ _ (Nat.le_succ 1)
theorem cmpEbIb80 (e : Operand Reg8) (imm : Byte) : Statement (.cmpEbIb80 e imm) :=
  ofModRMImm _ _ _ _ _ (Nat.le_succ 1)
theorem addEvIv81 (e : Operand Reg16) (imm : Word) : Statement (.addEvIv81 e imm) :=
  ofModRMImm _ _ _ _ _ (Nat.le_refl 2)
theorem orEvIv81 (e : Operand Reg16) (imm : Word) : Statement (.orEvIv81 e imm) :=
  ofModRMImm _ _ _ _ _ (Nat.le_refl 2)
theorem adcEvIv81 (e : Operand Reg16) (imm : Word) : Statement (.adcEvIv81 e imm) :=
  ofModRMImm _ _ _ _ _ (Nat.le_refl 2)
theorem sbbEvIv81 (e : Operand Reg16) (imm : Word) : Statement (.sbbEvIv81 e imm) :=
  ofModRMImm _ _ _ _ _ (Nat.le_refl 2)
theorem andEvIv81 (e : Operand Reg16) (imm : Word) : Statement (.andEvIv81 e imm) :=
  ofModRMImm _ _ _ _ _ (Nat.le_refl 2)
theorem subEvIv81 (e : Operand Reg16) (imm : Word) : Statement (.subEvIv81 e imm) :=
  ofModRMImm _ _ _ _ _ (Nat.le_refl 2)
theorem xorEvIv81 (e : Operand Reg16) (imm : Word) : Statement (.xorEvIv81 e imm) :=
  ofModRMImm _ _ _ _ _ (Nat.le_refl 2)
theorem cmpEvIv81 (e : Operand Reg16) (imm : Word) : Statement (.cmpEvIv81 e imm) :=
  ofModRMImm _ _ _ _ _ (Nat.le_refl 2)
theorem addEbIb82 (e : Operand Reg8) (imm : Byte) : Statement (.addEbIb82 e imm) :=
  ofModRMImm _ _ _ _ _ (Nat.le_succ 1)
theorem orEbIb82 (e : Operand Reg8) (imm : Byte) : Statement (.orEbIb82 e imm) := ofModRMImm _ _ _ _ _ (Nat.le_succ 1)
theorem adcEbIb82 (e : Operand Reg8) (imm : Byte) : Statement (.adcEbIb82 e imm) :=
  ofModRMImm _ _ _ _ _ (Nat.le_succ 1)
theorem sbbEbIb82 (e : Operand Reg8) (imm : Byte) : Statement (.sbbEbIb82 e imm) :=
  ofModRMImm _ _ _ _ _ (Nat.le_succ 1)
theorem andEbIb82 (e : Operand Reg8) (imm : Byte) : Statement (.andEbIb82 e imm) :=
  ofModRMImm _ _ _ _ _ (Nat.le_succ 1)
theorem subEbIb82 (e : Operand Reg8) (imm : Byte) : Statement (.subEbIb82 e imm) :=
  ofModRMImm _ _ _ _ _ (Nat.le_succ 1)
theorem xorEbIb82 (e : Operand Reg8) (imm : Byte) : Statement (.xorEbIb82 e imm) :=
  ofModRMImm _ _ _ _ _ (Nat.le_succ 1)
theorem cmpEbIb82 (e : Operand Reg8) (imm : Byte) : Statement (.cmpEbIb82 e imm) :=
  ofModRMImm _ _ _ _ _ (Nat.le_succ 1)
theorem addEvIb83 (e : Operand Reg16) (imm : Byte) : Statement (.addEvIb83 e imm) :=
  ofModRMImm _ _ _ _ _ (Nat.le_succ 1)
theorem orEvIb83 (e : Operand Reg16) (imm : Byte) : Statement (.orEvIb83 e imm) :=
  ofModRMImm _ _ _ _ _ (Nat.le_succ 1)
theorem adcEvIb83 (e : Operand Reg16) (imm : Byte) : Statement (.adcEvIb83 e imm) :=
  ofModRMImm _ _ _ _ _ (Nat.le_succ 1)
theorem sbbEvIb83 (e : Operand Reg16) (imm : Byte) : Statement (.sbbEvIb83 e imm) :=
  ofModRMImm _ _ _ _ _ (Nat.le_succ 1)
theorem andEvIb83 (e : Operand Reg16) (imm : Byte) : Statement (.andEvIb83 e imm) :=
  ofModRMImm _ _ _ _ _ (Nat.le_succ 1)
theorem subEvIb83 (e : Operand Reg16) (imm : Byte) : Statement (.subEvIb83 e imm) :=
  ofModRMImm _ _ _ _ _ (Nat.le_succ 1)
theorem xorEvIb83 (e : Operand Reg16) (imm : Byte) : Statement (.xorEvIb83 e imm) :=
  ofModRMImm _ _ _ _ _ (Nat.le_succ 1)
theorem cmpEvIb83 (e : Operand Reg16) (imm : Byte) : Statement (.cmpEvIb83 e imm) :=
  ofModRMImm _ _ _ _ _ (Nat.le_succ 1)
theorem testEbGb (g : Reg8) (e : Operand Reg8) : Statement (.testEbGb g e) := ofModRM _ _ _ _
theorem testEvGv (g : Reg16) (e : Operand Reg16) : Statement (.testEvGv g e) := ofModRM _ _ _ _
theorem xchgEbGb (g : Reg8) (e : Operand Reg8) : Statement (.xchgEbGb g e) := ofModRM _ _ _ _
theorem xchgEvGv (g : Reg16) (e : Operand Reg16) : Statement (.xchgEvGv g e) := ofModRM _ _ _ _
theorem movEbGb : Statement .movEbGb := ofBytes _ rfl
theorem movEvGv : Statement .movEvGv := ofBytes _ rfl
theorem movGbEb : Statement .movGbEb := ofBytes _ rfl
theorem movGvEv : Statement .movGvEv := ofBytes _ rfl
theorem movEwSw : Statement .movEwSw := ofBytes _ rfl
theorem lea : Statement .lea := ofBytes _ rfl
theorem movSwEw : Statement .movSwEw := ofBytes _ rfl
theorem popEv : Statement .popEv := ofBytes _ rfl
theorem nop : Statement .nop := ofBytes _ rfl
theorem xchgAXCX : Statement .xchgAXCX := ofBytes _ rfl
theorem xchgAXDX : Statement .xchgAXDX := ofBytes _ rfl
theorem xchgAXBX : Statement .xchgAXBX := ofBytes _ rfl
theorem xchgAXSP : Statement .xchgAXSP := ofBytes _ rfl
theorem xchgAXBP : Statement .xchgAXBP := ofBytes _ rfl
theorem xchgAXSI : Statement .xchgAXSI := ofBytes _ rfl
theorem xchgAXDI : Statement .xchgAXDI := ofBytes _ rfl
theorem cbw : Statement .cbw := ofBytes _ rfl
theorem cwd : Statement .cwd := ofBytes _ rfl
theorem callFar : Statement .callFar := ofBytes _ rfl
theorem wait : Statement .wait := ofBytes _ rfl
theorem pushf : Statement .pushf := ofBytes _ rfl
theorem popf : Statement .popf := ofBytes _ rfl
theorem sahf : Statement .sahf := ofBytes _ rfl
theorem lahf : Statement .lahf := ofBytes _ rfl
theorem movALMem (ow : Word) : Statement (.movALMem ow) := ofBytes _ rfl
theorem movAXMem (ow : Word) : Statement (.movAXMem ow) := ofBytes _ rfl
theorem movMemAL (ow : Word) : Statement (.movMemAL ow) := ofBytes _ rfl
theorem movMemAX (ow : Word) : Statement (.movMemAX ow) := ofBytes _ rfl
theorem movsb : Statement .movsb := ofBytes _ rfl
theorem movsw : Statement .movsw := ofBytes _ rfl
theorem cmpsb : Statement .cmpsb := ofBytes _ rfl
theorem cmpsw : Statement .cmpsw := ofBytes _ rfl
theorem testALIb : Statement .testALIb := ofBytes _ rfl
theorem testAXIv : Statement .testAXIv := ofBytes _ rfl
theorem stosb : Statement .stosb := ofBytes _ rfl
theorem stosw : Statement .stosw := ofBytes _ rfl
theorem lodsb : Statement .lodsb := ofBytes _ rfl
theorem lodsw : Statement .lodsw := ofBytes _ rfl
theorem scasb : Statement .scasb := ofBytes _ rfl
theorem scasw : Statement .scasw := ofBytes _ rfl
theorem movALIb (imm : Byte) : Statement (.movALIb imm) := ofBytes _ rfl
theorem movCLIb (imm : Byte) : Statement (.movCLIb imm) := ofBytes _ rfl
theorem movDLIb (imm : Byte) : Statement (.movDLIb imm) := ofBytes _ rfl
theorem movBLIb (imm : Byte) : Statement (.movBLIb imm) := ofBytes _ rfl
theorem movAHIb (imm : Byte) : Statement (.movAHIb imm) := ofBytes _ rfl
theorem movCHIb (imm : Byte) : Statement (.movCHIb imm) := ofBytes _ rfl
theorem movDHIb (imm : Byte) : Statement (.movDHIb imm) := ofBytes _ rfl
theorem movBHIb (imm : Byte) : Statement (.movBHIb imm) := ofBytes _ rfl
theorem movAXIv (imm : Word) : Statement (.movAXIv imm) := ofBytes _ rfl
theorem movCXIv (imm : Word) : Statement (.movCXIv imm) := ofBytes _ rfl
theorem movDXIv (imm : Word) : Statement (.movDXIv imm) := ofBytes _ rfl
theorem movBXIv (imm : Word) : Statement (.movBXIv imm) := ofBytes _ rfl
theorem movSPIv (imm : Word) : Statement (.movSPIv imm) := ofBytes _ rfl
theorem movBPIv (imm : Word) : Statement (.movBPIv imm) := ofBytes _ rfl
theorem movSIIv (imm : Word) : Statement (.movSIIv imm) := ofBytes _ rfl
theorem movDIIv (imm : Word) : Statement (.movDIIv imm) := ofBytes _ rfl
theorem undefC0 : Statement .undefC0 := ofBytes _ rfl
theorem undefC1 : Statement .undefC1 := ofBytes _ rfl
theorem retIw : Statement .retIw := ofBytes _ rfl
theorem ret : Statement .ret := ofBytes _ rfl
theorem les : Statement .les := ofBytes _ rfl
theorem lds : Statement .lds := ofBytes _ rfl
theorem movEbIb : Statement .movEbIb := ofBytes _ rfl
theorem movEvIv : Statement .movEvIv := ofBytes _ rfl
theorem undefC8 : Statement .undefC8 := ofBytes _ rfl
theorem undefC9 : Statement .undefC9 := ofBytes _ rfl
theorem retfIw : Statement .retfIw := ofBytes _ rfl
theorem retf : Statement .retf := ofBytes _ rfl
theorem int3 : Statement .int3 := ofBytes _ rfl
theorem intIb : Statement .intIb := ofBytes _ rfl
theorem into : Statement .into := ofBytes _ rfl
theorem iret : Statement .iret := ofBytes _ rfl
theorem shiftEb1 : Statement .shiftEb1 := ofBytes _ rfl
theorem shiftEv1 : Statement .shiftEv1 := ofBytes _ rfl
theorem shiftEbCL : Statement .shiftEbCL := ofBytes _ rfl
theorem shiftEvCL : Statement .shiftEvCL := ofBytes _ rfl
theorem aam : Statement .aam := ofBytes _ rfl
theorem aad : Statement .aad := ofBytes _ rfl
theorem undefD6 : Statement .undefD6 := ofBytes _ rfl
theorem xlat : Statement .xlat := ofBytes _ rfl
theorem escD8 : Statement .escD8 := ofBytes _ rfl
theorem escD9 : Statement .escD9 := ofBytes _ rfl
theorem escDA : Statement .escDA := ofBytes _ rfl
theorem escDB : Statement .escDB := ofBytes _ rfl
theorem escDC : Statement .escDC := ofBytes _ rfl
theorem escDD : Statement .escDD := ofBytes _ rfl
theorem escDE : Statement .escDE := ofBytes _ rfl
theorem escDF : Statement .escDF := ofBytes _ rfl
theorem loopnz : Statement .loopnz := ofBytes _ rfl
theorem loopz : Statement .loopz := ofBytes _ rfl
theorem loop : Statement .loop := ofBytes _ rfl
theorem jcxz : Statement .jcxz := ofBytes _ rfl
theorem inALIb : Statement .inALIb := ofBytes _ rfl
theorem inAXIb : Statement .inAXIb := ofBytes _ rfl
theorem outIbAL : Statement .outIbAL := ofBytes _ rfl
theorem outIbAX : Statement .outIbAX := ofBytes _ rfl
theorem callRel16 : Statement .callRel16 := ofBytes _ rfl
theorem jmpRel16 : Statement .jmpRel16 := ofBytes _ rfl
theorem jmpFar : Statement .jmpFar := ofBytes _ rfl
theorem jmpRel8 (d : Byte) : Statement (.jmpRel8 d) := ofBytes _ rfl
theorem inALDX : Statement .inALDX := ofBytes _ rfl
theorem inAXDX : Statement .inAXDX := ofBytes _ rfl
theorem outDXAL : Statement .outDXAL := ofBytes _ rfl
theorem outDXAX : Statement .outDXAX := ofBytes _ rfl
theorem lock : Statement .lock := ofBytes _ rfl
theorem undefF1 : Statement .undefF1 := ofBytes _ rfl
theorem repne : Statement .repne := ofBytes _ rfl
theorem rep : Statement .rep := ofBytes _ rfl
theorem hlt : Statement .hlt := ofBytes _ rfl
theorem cmc : Statement .cmc := ofBytes _ rfl
theorem grp3Eb : Statement .grp3Eb := ofBytes _ rfl
theorem grp3Ev : Statement .grp3Ev := ofBytes _ rfl
theorem clc : Statement .clc := ofBytes _ rfl
theorem stc : Statement .stc := ofBytes _ rfl
theorem cli : Statement .cli := ofBytes _ rfl
theorem sti : Statement .sti := ofBytes _ rfl
theorem cld : Statement .cld := ofBytes _ rfl
theorem std : Statement .std := ofBytes _ rfl
theorem grp4Eb : Statement .grp4Eb := ofBytes _ rfl
theorem grp5Ev : Statement .grp5Ev := ofBytes _ rfl

end Sys2Proof.Laws.LengthBound
end

