-- ==== Sys2Proof/Laws/Run.lean ====
section
/-! SUPPORT. Runs of several steps, and the six bytes a step looks at. -/

namespace Sys2Proof.Machine

@[simp] theorem runSteps_zero (s : State) : runSteps 0 s = .next s := rfl

theorem coreRun_next (M : Host.Core) (k : Nat) (s t : M.State) (h : M.step s = .next t) :
    M.run (k + 1) s = M.run k t := by
  rw [Host.Core.run, h]

theorem coreRun_refused (M : Host.Core) (k : Nat) (s : M.State) (r : M.Refusal) (h : M.step s = .refused r) :
    M.run (k + 1) s = .refused r := by
  rw [Host.Core.run, h]

/-- A run is its first step and then the rest of it. -/
theorem runSteps_succ_next {k : Nat} {s t : State} (h : step s = .next t) : runSteps (k + 1) s = runSteps k t :=
  coreRun_next Sys2Proof.core k s t h

/-- A run ends at its first refusal. -/
theorem runSteps_succ_refused {k : Nat} {s : State} {r : Refusal} (h : step s = .refused r) :
    runSteps (k + 1) s = .refused r :=
  coreRun_refused Sys2Proof.core k s r h

theorem runSteps_succ (k : Nat) (s : State) :
    runSteps (k + 1) s =
      match step s with
      | .next t => runSteps k t
      | .fault r => .fault r
      | .refused r => .refused r := by
  cases h : step s with
  | next t => exact runSteps_succ_next h
  | fault r => cases r
  | refused r => exact runSteps_succ_refused h

/-- A run of an idle state holds it (R190, R426). -/
theorem runSteps_idle (k : Nat) {s : State} (h : s.idle = true) : runSteps k s = .next s := by
  induction k with
  | zero => rfl
  | succ k ih => rw [runSteps_succ_next (step_idle h), ih]

theorem idle_eq_false {s : State} : s.idle = false ↔ s.budget ≠ 0 ∧ s.halted = false := by
  simp [State.idle]

theorem idle_eq_true {s : State} : s.idle = true ↔ s.budget = 0 ∨ s.halted = true := by
  simp [State.idle]

@[simp] theorem Memory.fetch_length (m : Memory) (cs ip : Word) (n : Nat) : (m.fetch cs ip n).length = n := by
  induction n generalizing ip with
  | zero => rfl
  | succ n ih => simp [Memory.fetch, ih]

@[simp] theorem State.fetchWindow_length (s : State) : s.fetchWindow.length = 6 := Memory.fetch_length _ _ _ _

/-- The first byte a step looks at is the opcode byte at CS:IP (R190). -/
theorem State.fetchWindow_eq (s : State) :
    s.fetchWindow = s.read8 (s.getSeg .cs) s.ip :: s.mem.fetch (s.getSeg .cs) (s.ip + 1#16) 5 := rfl

end Sys2Proof.Machine
end

