-- ==== Sys2Proof/Tests/Slice0.lean ====
section
/-! SUPPORT. The model's own tests: the well-formedness check, every row of the opcode table decoded from bytes written out
from 30_encoding.md, single steps with the values the spec's examples give, and a witness for the hypotheses of each statement. -/

namespace Sys2Proof.Tests

open Sys2Proof.Machine Sys2Proof.Spec

/-! ### Helpers -/

def regs0 : Regs := ⟨0#16, 0#16, 0#16, 0#16, 0#16, 0#16, 0#16, 0#16⟩
def segs0 : SegRegs := ⟨0#16, 0#16, 0#16, 0#16⟩
def flags0 : Flags := ⟨false, false, false, false, false, false, false, false, false⟩

/-- Reset state with these registers and bytes of RAM, the program at CS:0000, and a budget of one. -/
def start (regs : Regs) (sregs : SegRegs) (flags : Flags) (ram : List Host.Cell) (program : List Byte) : State :=
  { State.reset with
    regs := regs, sregs := sregs, flags := flags, budget := 1,
    mem := ram.foldl (fun m c => m.write c.1 c.2) (Memory.place [] sregs.cs 0#16 program) }

/-- A program run from reset. -/
def plain (program : List Byte) : State := start regs0 segs0 flags0 [] program

/-- A program run from reset under these settings. -/
def under (p : Params) (program : List Byte) : State := { plain program with params := p }

/-- One step answers a next state with the property. -/
def after (s : State) (p : State → Bool) : Bool :=
  match step s with
  | .next t => p t
  | .fault _ => false
  | .refused _ => false

/-- One step refuses with this reason. -/
def refuses (s : State) (r : Refusal) : Bool :=
  match step s with
  | .next _ => false
  | .fault _ => false
  | .refused q => q == r

/-- Each row: how many bits, the bytes with the first one lowest, and the instruction they are. -/
def decodes (rows : List (Nat × Nat × Instr)) : Bool :=
  rows.all fun r => decodeTableWord r.1 r.2.1 == some r.2.2

/-! ### Well-formedness: the one check is that BP never stands alone as a base (R94) -/

theorem test_wf_refuses_bare_bp :
    [Instr.addEbGb .al (.mem (.base .bp)), .cmpGvEv .ax (.mem (.base .bp)), .subEbIb80 (.mem (.base .bp)) 0#8,
     .orEvIv81 (.mem (.base .bp)) 0#16, .andEvIb83 (.mem (.base .bp)) 0#8, .testEbGb .al (.mem (.base .bp)),
     .xchgEvGv .ax (.mem (.base .bp))].all (fun i => !i.wf) = true := by
  decide

theorem test_wf_accepts_the_others :
    [Instr.addEbGb .al (.mem (.base .bx)), .cmpGvEv .ax (.mem (.disp8 .bp 0#8)), .subEbIb80 (.mem (.direct 0#16)) 0#8,
     .orEvIv81 (.mem (.disp16 .bp 0#16)) 0#16, .andEvIb83 (.reg .bp) 0#8, .nop].all (fun i => i.wf) = true := by
  decide

/-- `[BP]` is written with an explicit zero displacement: bytes `00 46 00` (R94). -/
theorem test_encode_bp : encode (.addEbGb .al (.mem (.disp8 .bp 0#8))) = [0x00#8, 0x46#8, 0x00#8] := by
  decide

/-- The encoder writes the bytes of S6: `26`, then `A1 00 00`. -/
theorem test_encode_s6 :
    encode .prefixES ++ encode (.movAXMem 0#16) = [0x26#8, 0xA1#8, 0x00#8, 0x00#8] := by
  decide

/-- A missing byte is an error by name: `81 C0 34` lacks the high byte of its immediate (R91). -/
theorem test_decode_truncated :
    (match decode [0x81#8, 0xC0#8, 0x34#8] with | .error .truncated => true | .ok _ => false) = true := by
  decide

/-! ### Decoding: bytes written out from R91 to R101 and the match and mask of opcode_table.json -/

theorem test_decode_0 :
    decodes
      [(24, 0x057300, (.addEbGb .dh (.mem (.disp8 .bpdi 0x05#8)))),
       (32, 0x6FBB9E01, (.addEvGv .bx (.mem (.disp16 .bp 0x6FBB#16)))), (16, 0xC102, (.addGbEb .al (.reg .cl))),
       (24, 0x856D03, (.addGvEv .bp (.mem (.disp8 .di 0x85#8)))), (16, 0xA304, (.addALIb 0xA3#8)),
       (24, 0xE7D505, (.addAXIv 0xE7D5#16)), (8, 0x06, .pushES), (8, 0x07, .popES),
       (32, 0xEABC9008, (.orEbGb .dl (.mem (.disp16 .bxsi 0xEABC#16)))), (16, 0xFB09, (.orEvGv .di (.reg .bx))),
       (32, 0x1234260A, (.orGbEb .ah (.mem (.direct 0x1234#16)))),
       (32, 0x07548A0B, (.orGvEv .cx (.mem (.disp16 .bpsi 0x0754#16)))), (16, 0x730C, (.orALIb 0x73#8)),
       (24, 0x0D810D, (.orAXIv 0x0D81#16)), (8, 0x0E, .pushCS), (8, 0x0F, .undef0F)] = true := by
  decide

theorem test_decode_1 :
    decodes
      [(16, 0xF510, (.adcEbGb .dh (.reg .ch))), (16, 0x1811, (.adcEvGv .bx (.mem (.base .bxsi)))),
       (24, 0x734312, (.adcGbEb .al (.mem (.disp8 .bpdi 0x73#8)))), (16, 0xEF13, (.adcGvEv .bp (.reg .di))),
       (16, 0xE614, (.adcALIb 0xE6#8)), (24, 0xEAA215, (.adcAXIv 0xEAA2#16)), (8, 0x16, .pushSS), (8, 0x17, .popSS),
       (16, 0x1218, (.sbbEbGb .dl (.mem (.base .bpsi)))), (24, 0x1F7D19, (.sbbEvGv .di (.mem (.disp8 .di 0x1F#8)))),
       (32, 0x3622A01A, (.sbbGbEb .ah (.mem (.disp16 .bxsi 0x3622#16)))),
       (16, 0x0C1B, (.sbbGvEv .cx (.mem (.base .si)))), (16, 0x541C, (.sbbALIb 0x54#8)),
       (24, 0xA3121D, (.sbbAXIv 0xA312#16)), (8, 0x1E, .pushDS), (8, 0x1F, .popDS)] = true := by
  decide

theorem test_decode_2 :
    decodes
      [(24, 0xBD7720, (.andEbGb .dh (.mem (.disp8 .bx 0xBD#8)))),
       (32, 0xA3309A21, (.andEvGv .bx (.mem (.disp16 .bpsi 0xA330#16)))), (16, 0xC522, (.andGbEb .al (.reg .ch))),
       (24, 0xBE6923, (.andGvEv .bp (.mem (.disp8 .bxdi 0xBE#8)))), (16, 0xB324, (.andALIb 0xB3#8)),
       (24, 0xC6AD25, (.andAXIv 0xC6AD#16)), (8, 0x26, .prefixES), (8, 0x27, .daa),
       (32, 0xD6089428, (.subEbGb .dl (.mem (.disp16 .si 0xD608#16)))), (16, 0xFF29, (.subEvGv .di (.reg .di))),
       (16, 0x222A, (.subGbEb .ah (.mem (.base .bpsi)))),
       (32, 0x44AC8E2B, (.subGvEv .cx (.mem (.disp16 .bp 0x44AC#16)))), (16, 0x052C, (.subALIb 0x05#8)),
       (24, 0x0E4A2D, (.subAXIv 0x0E4A#16)), (8, 0x2E, .prefixCS), (8, 0x2F, .das)] = true := by
  decide

theorem test_decode_3 :
    decodes
      [(16, 0xF130, (.xorEbGb .dh (.reg .cl))), (16, 0x1C31, (.xorEvGv .bx (.mem (.base .si)))),
       (24, 0x7A4732, (.xorGbEb .al (.mem (.disp8 .bx 0x7A#8)))), (16, 0xEB33, (.xorGvEv .bp (.reg .bx))),
       (16, 0x8234, (.xorALIb 0x82#8)), (24, 0xB2B035, (.xorAXIv 0xB2B0#16)), (8, 0x36, .prefixSS), (8, 0x37, .aaa),
       (32, 0x12341638, (.cmpEbGb .dl (.mem (.direct 0x1234#16)))),
       (24, 0xBB7939, (.cmpEvGv .di (.mem (.disp8 .bxdi 0xBB#8)))),
       (32, 0x365AA43A, (.cmpGbEb .ah (.mem (.disp16 .si 0x365A#16)))),
       (16, 0x083B, (.cmpGvEv .cx (.mem (.base .bxsi)))), (16, 0x813C, (.cmpALIb 0x81#8)),
       (24, 0x3DDB3D, (.cmpAXIv 0x3DDB#16)), (8, 0x3E, .prefixDS), (8, 0x3F, .aas)] = true := by
  decide

theorem test_decode_4 :
    decodes
      [(8, 0x40, .incAX), (8, 0x41, .incCX), (8, 0x42, .incDX), (8, 0x43, .incBX), (8, 0x44, .incSP),
       (8, 0x45, .incBP), (8, 0x46, .incSI), (8, 0x47, .incDI), (8, 0x48, .decAX), (8, 0x49, .decCX),
       (8, 0x4A, .decDX), (8, 0x4B, .decBX), (8, 0x4C, .decSP), (8, 0x4D, .decBP), (8, 0x4E, .decSI),
       (8, 0x4F, .decDI)] = true := by
  decide

theorem test_decode_5 :
    decodes
      [(8, 0x50, .pushAX), (8, 0x51, .pushCX), (8, 0x52, .pushDX), (8, 0x53, .pushBX), (8, 0x54, .pushSP),
       (8, 0x55, .pushBP), (8, 0x56, .pushSI), (8, 0x57, .pushDI), (8, 0x58, .popAX), (8, 0x59, .popCX),
       (8, 0x5A, .popDX), (8, 0x5B, .popBX), (8, 0x5C, .popSP), (8, 0x5D, .popBP), (8, 0x5E, .popSI),
       (8, 0x5F, .popDI)] = true := by
  decide

theorem test_decode_6 :
    decodes
      [(8, 0x60, .undef60), (8, 0x61, .undef61), (8, 0x62, .undef62), (8, 0x63, .undef63), (8, 0x64, .undef64),
       (8, 0x65, .undef65), (8, 0x66, .undef66), (8, 0x67, .undef67), (8, 0x68, .undef68), (8, 0x69, .undef69),
       (8, 0x6A, .undef6A), (8, 0x6B, .undef6B), (8, 0x6C, .undef6C), (8, 0x6D, .undef6D), (8, 0x6E, .undef6E),
       (8, 0x6F, .undef6F)] = true := by
  decide

theorem test_decode_7 :
    decodes
      [(16, 0x4970, (.joRel8 0x49#8)), (16, 0xB271, (.jnoRel8 0xB2#8)), (16, 0x1772, (.jbRel8 0x17#8)),
       (16, 0x4A73, (.jnbRel8 0x4A#8)), (16, 0xFA74, (.jzRel8 0xFA#8)), (16, 0xAE75, (.jnzRel8 0xAE#8)),
       (16, 0x5676, (.jbeRel8 0x56#8)), (16, 0xFC77, (.jaRel8 0xFC#8)), (16, 0x0D78, (.jsRel8 0x0D#8)),
       (16, 0x2F79, (.jnsRel8 0x2F#8)), (16, 0xE67A, (.jpeRel8 0xE6#8)), (16, 0xE27B, (.jpoRel8 0xE2#8)),
       (16, 0x6A7C, (.jlRel8 0x6A#8)), (16, 0x577D, (.jgeRel8 0x57#8)), (16, 0x5A7E, (.jleRel8 0x5A#8)),
       (16, 0x637F, (.jgRel8 0x63#8))] = true := by
  decide

theorem test_decode_80 :
    decodes
      [(32, 0x88EF4380, (.addEbIb80 (.mem (.disp8 .bpdi 0xEF#8)) 0x88#8)),
       (40, 0x36AA938E80, (.orEbIb80 (.mem (.disp16 .bp 0xAA93#16)) 0x36#8)),
       (24, 0x56D180, (.adcEbIb80 (.reg .cl) 0x56#8)),
       (32, 0x32FF5D80, (.sbbEbIb80 (.mem (.disp8 .di 0xFF#8)) 0x32#8)),
       (40, 0x15601DA080, (.andEbIb80 (.mem (.disp16 .bxsi 0x601D#16)) 0x15#8)),
       (24, 0x38EB80, (.subEbIb80 (.reg .bl) 0x38#8)),
       (40, 0x6612343680, (.xorEbIb80 (.mem (.direct 0x1234#16)) 0x66#8)),
       (40, 0x48A146BA80, (.cmpEbIb80 (.mem (.disp16 .bpsi 0xA146#16)) 0x48#8))] = true := by
  decide

theorem test_decode_81 :
    decodes
      [(32, 0xD71DC581, (.addEvIv81 (.reg .bp) 0xD71D#16)),
       (32, 0x919F0881, (.orEvIv81 (.mem (.base .bxsi)) 0x919F#16)),
       (40, 0x51B84E5381, (.adcEvIv81 (.mem (.disp8 .bpdi 0x4E#8)) 0x51B8#16)),
       (32, 0xED67DF81, (.sbbEvIv81 (.reg .di) 0xED67#16)),
       (32, 0x203E2281, (.andEvIv81 (.mem (.base .bpsi)) 0x203E#16)),
       (40, 0x68DA396D81, (.subEvIv81 (.mem (.disp8 .di 0x39#8)) 0x68DA#16)),
       (48, 0x45DC9AACB081, (.xorEvIv81 (.mem (.disp16 .bxsi 0x9AAC#16)) 0x45DC#16)),
       (32, 0x1C3E3C81, (.cmpEvIv81 (.mem (.base .si)) 0x1C3E#16))] = true := by
  decide

theorem test_decode_82 :
    decodes
      [(32, 0x05D14782, (.addEbIb82 (.mem (.disp8 .bx 0xD1#8)) 0x05#8)),
       (40, 0x8CF2828A82, (.orEbIb82 (.mem (.disp16 .bpsi 0xF282#16)) 0x8C#8)),
       (24, 0x34D582, (.adcEbIb82 (.reg .ch) 0x34#8)),
       (32, 0x3FE25982, (.sbbEbIb82 (.mem (.disp8 .bxdi 0xE2#8)) 0x3F#8)),
       (40, 0xC4AD71A482, (.andEbIb82 (.mem (.disp16 .si 0xAD71#16)) 0xC4#8)),
       (24, 0xF9EF82, (.subEbIb82 (.reg .bh) 0xF9#8)), (24, 0x5E3282, (.xorEbIb82 (.mem (.base .bpsi)) 0x5E#8)),
       (40, 0x350C3CBE82, (.cmpEbIb82 (.mem (.disp16 .bp 0x0C3C#16)) 0x35#8))] = true := by
  decide

theorem test_decode_83 :
    decodes
      [(24, 0x2AC183, (.addEvIb83 (.reg .cx) 0x2A#8)), (24, 0x7A0C83, (.orEvIb83 (.mem (.base .si)) 0x7A#8)),
       (32, 0xED795783, (.adcEvIb83 (.mem (.disp8 .bx 0x79#8)) 0xED#8)),
       (24, 0x29DB83, (.sbbEvIb83 (.reg .bx) 0x29#8)),
       (40, 0xC312342683, (.andEvIb83 (.mem (.direct 0x1234#16)) 0xC3#8)),
       (32, 0x779D6983, (.subEvIb83 (.mem (.disp8 .bxdi 0x9D#8)) 0x77#8)),
       (40, 0x5C839AB483, (.xorEvIb83 (.mem (.disp16 .si 0x839A#16)) 0x5C#8)),
       (24, 0xC83883, (.cmpEvIb83 (.mem (.base .bxsi)) 0xC8#8))] = true := by
  decide

theorem test_decode_8 :
    decodes
      [(24, 0x8B7384, (.testEbGb .dh (.mem (.disp8 .bpdi 0x8B#8)))),
       (32, 0x48229E85, (.testEvGv .bx (.mem (.disp16 .bp 0x4822#16)))), (16, 0xC186, (.xchgEbGb .al (.reg .cl))),
       (24, 0xF46D87, (.xchgEvGv .bp (.mem (.disp8 .di 0xF4#8)))), (8, 0x88, .movEbGb), (8, 0x89, .movEvGv),
       (8, 0x8A, .movGbEb), (8, 0x8B, .movGvEv), (8, 0x8C, .movEwSw), (8, 0x8D, .lea), (8, 0x8E, .movSwEw),
       (8, 0x8F, .popEv)] = true := by
  decide

theorem test_decode_9 :
    decodes
      [(8, 0x90, .nop), (8, 0x91, .xchgAXCX), (8, 0x92, .xchgAXDX), (8, 0x93, .xchgAXBX), (8, 0x94, .xchgAXSP),
       (8, 0x95, .xchgAXBP), (8, 0x96, .xchgAXSI), (8, 0x97, .xchgAXDI), (8, 0x98, .cbw), (8, 0x99, .cwd),
       (8, 0x9A, .callFar), (8, 0x9B, .wait), (8, 0x9C, .pushf), (8, 0x9D, .popf), (8, 0x9E, .sahf),
       (8, 0x9F, .lahf)] = true := by
  decide

theorem test_decode_A :
    decodes
      [(24, 0x49E9A0, (.movALMem 0x49E9#16)), (24, 0xC33FA1, (.movAXMem 0xC33F#16)),
       (24, 0x8113A2, (.movMemAL 0x8113#16)), (24, 0xD8EAA3, (.movMemAX 0xD8EA#16)), (8, 0xA4, .movsb),
       (8, 0xA5, .movsw), (8, 0xA6, .cmpsb), (8, 0xA7, .cmpsw), (8, 0xA8, .testALIb), (8, 0xA9, .testAXIv),
       (8, 0xAA, .stosb), (8, 0xAB, .stosw), (8, 0xAC, .lodsb), (8, 0xAD, .lodsw), (8, 0xAE, .scasb),
       (8, 0xAF, .scasw)] = true := by
  decide

theorem test_decode_B :
    decodes
      [(16, 0x36B0, (.movALIb 0x36#8)), (16, 0x7BB1, (.movCLIb 0x7B#8)), (16, 0x73B2, (.movDLIb 0x73#8)),
       (16, 0x3DB3, (.movBLIb 0x3D#8)), (16, 0x54B4, (.movAHIb 0x54#8)), (16, 0x38B5, (.movCHIb 0x38#8)),
       (16, 0xF1B6, (.movDHIb 0xF1#8)), (16, 0xD0B7, (.movBHIb 0xD0#8)), (24, 0xCDC9B8, (.movAXIv 0xCDC9#16)),
       (24, 0x6688B9, (.movCXIv 0x6688#16)), (24, 0x28BFBA, (.movDXIv 0x28BF#16)),
       (24, 0x7D99BB, (.movBXIv 0x7D99#16)), (24, 0x1AC4BC, (.movSPIv 0x1AC4#16)),
       (24, 0x34CFBD, (.movBPIv 0x34CF#16)), (24, 0x4D44BE, (.movSIIv 0x4D44#16)),
       (24, 0x2C85BF, (.movDIIv 0x2C85#16))] = true := by
  decide

theorem test_decode_C :
    decodes
      [(8, 0xC0, .undefC0), (8, 0xC1, .undefC1), (8, 0xC2, .retIw), (8, 0xC3, .ret), (8, 0xC4, .les),
       (8, 0xC5, .lds), (8, 0xC6, .movEbIb), (8, 0xC7, .movEvIv), (8, 0xC8, .undefC8), (8, 0xC9, .undefC9),
       (8, 0xCA, .retfIw), (8, 0xCB, .retf), (8, 0xCC, .int3), (8, 0xCD, .intIb), (8, 0xCE, .into),
       (8, 0xCF, .iret)] = true := by
  decide

theorem test_decode_D :
    decodes
      [(8, 0xD0, .shiftEb1), (8, 0xD1, .shiftEv1), (8, 0xD2, .shiftEbCL), (8, 0xD3, .shiftEvCL), (8, 0xD4, .aam),
       (8, 0xD5, .aad), (8, 0xD6, .undefD6), (8, 0xD7, .xlat), (8, 0xD8, .escD8), (8, 0xD9, .escD9),
       (8, 0xDA, .escDA), (8, 0xDB, .escDB), (8, 0xDC, .escDC), (8, 0xDD, .escDD), (8, 0xDE, .escDE),
       (8, 0xDF, .escDF)] = true := by
  decide

theorem test_decode_E :
    decodes
      [(8, 0xE0, .loopnz), (8, 0xE1, .loopz), (8, 0xE2, .loop), (8, 0xE3, .jcxz), (8, 0xE4, .inALIb),
       (8, 0xE5, .inAXIb), (8, 0xE6, .outIbAL), (8, 0xE7, .outIbAX), (8, 0xE8, .callRel16), (8, 0xE9, .jmpRel16),
       (8, 0xEA, .jmpFar), (16, 0x8AEB, (.jmpRel8 0x8A#8)), (8, 0xEC, .inALDX), (8, 0xED, .inAXDX),
       (8, 0xEE, .outDXAL), (8, 0xEF, .outDXAX)] = true := by
  decide

theorem test_decode_F :
    decodes
      [(8, 0xF0, .lock), (8, 0xF1, .undefF1), (8, 0xF2, .repne), (8, 0xF3, .rep), (8, 0xF4, .hlt), (8, 0xF5, .cmc),
       (8, 0xF6, .grp3Eb), (8, 0xF7, .grp3Ev), (8, 0xF8, .clc), (8, 0xF9, .stc), (8, 0xFA, .cli), (8, 0xFB, .sti),
       (8, 0xFC, .cld), (8, 0xFD, .std), (8, 0xFE, .grp4Eb), (8, 0xFF, .grp5Ev)] = true := by
  decide

/-! ### Single steps: the states and results of the examples of the rules and of 95_test_vectors.md -/

/-- R220: `00 0F`. -/
theorem test_step_addEbGb :
   after (start ({ regs0 with bx := 0x0010#16, cx := 0x0001#16 }) ({ segs0 with ds := 0x0100#16 }) flags0 [(0x1010,
      0x7F#8)] [0x00#8, 0x0F#8])
      (fun t => t.mem.read 0x1010 == 0x80#8 && t.get8 .cl == 0x01#8 && t.ip == 0x0002#16 && t.flags.word == 0xF8BA#16)
        = true := by
  decide

/-- R224: `04 01`. -/
theorem test_step_addALIb :
    after (start ({ regs0 with ax := 0x5A0F#16 }) segs0 flags0 [] [0x04#8, 0x01#8])
      (fun t => t.get16 .ax == 0x5A10#16 && t.ip == 0x0002#16 && t.flags.word == 0xF03A#16) = true := by
  decide

/-- R227: `09 D8`. -/
theorem test_step_orEvGv :
    after (start ({ regs0 with ax := 0x00F0#16, bx := 0x0F00#16 }) segs0 flags0 [] [0x09#8, 0xD8#8])
      (fun t => t.get16 .ax == 0x0FF0#16 && t.get16 .bx == 0x0F00#16 && t.ip == 0x0002#16
        && t.flags.word == 0xF02E#16) = true := by
  decide

/-- R231: `0D 00 00`. -/
theorem test_step_orAXIv :
    after (start ({ regs0 with ax := 0x0000#16 }) segs0 flags0 [] [0x0D#8, 0x00#8, 0x00#8])
      (fun t => t.get16 .ax == 0x0000#16 && t.ip == 0x0003#16 && t.flags.word == 0xF06E#16) = true := by
  decide

/-- R233: `11 D8`. -/
theorem test_step_adcEvGv :
   after (start ({ regs0 with ax := 0xFFFF#16, bx := 0xFFFF#16 }) segs0 ({ flags0 with CF := true }) [] [0x11#8,
      0xD8#8])
      (fun t => t.get16 .ax == 0xFFFF#16 && t.get16 .bx == 0xFFFF#16 && t.ip == 0x0002#16
        && t.flags.word == 0xF0BF#16) = true := by
  decide

/-- R234: `12 F3`. -/
theorem test_step_adcGbEb :
   after (start ({ regs0 with dx := 0x0F00#16, bx := 0x0000#16 }) segs0 ({ flags0 with CF := true }) [] [0x12#8,
      0xF3#8])
      (fun t => t.get8 .dh == 0x10#8 && t.get8 .bl == 0x00#8 && t.get16 .dx == 0x1000#16 && t.ip == 0x0002#16
        && t.flags.word == 0xF03A#16) = true := by
  decide

/-- R241: `1B 16 00 02`. -/
theorem test_step_sbbGvEv :
   after (start ({ regs0 with dx := 0x8000#16 }) segs0 ({ flags0 with CF := true }) [(0x200, 0x00#8), (0x201, 0x00#8)]
      [0x1B#8, 0x16#8, 0x00#8, 0x02#8])
      (fun t => t.get16 .dx == 0x7FFF#16 && t.ip == 0x0004#16 && t.flags.word == 0xF83E#16) = true := by
  decide

/-- R242: `1C 00`. -/
theorem test_step_sbbALIb :
    after (start ({ regs0 with ax := 0x5A80#16 }) segs0 ({ flags0 with CF := true }) [] [0x1C#8, 0x00#8])
      (fun t => t.get16 .ax == 0x5A7F#16 && t.ip == 0x0002#16 && t.flags.word == 0xF83A#16) = true := by
  decide

/-- R244: `20 0F`. -/
theorem test_step_andEbGb :
   after (start ({ regs0 with bx := 0x0010#16, cx := 0x003C#16 }) ({ segs0 with ds := 0x0100#16 }) flags0 [(0x1010,
      0xF0#8)] [0x20#8, 0x0F#8])
      (fun t => t.mem.read 0x1010 == 0x30#8 && t.get8 .cl == 0x3C#8 && t.ip == 0x0002#16 && t.flags.word == 0xF02E#16)
        = true := by
  decide

/-- R246: `22 F3`. -/
theorem test_step_andGbEb :
    after (start ({ regs0 with dx := 0xAA00#16, bx := 0x0055#16 }) segs0 flags0 [] [0x22#8, 0xF3#8])
      (fun t => t.get8 .dh == 0x00#8 && t.get8 .bl == 0x55#8 && t.get16 .dx == 0x0000#16 && t.ip == 0x0002#16
        && t.flags.word == 0xF06E#16) = true := by
  decide

/-- R251: `29 D8`. -/
theorem test_step_subEvGv :
    after (start ({ regs0 with ax := 0x0000#16, bx := 0x0001#16 }) segs0 flags0 [] [0x29#8, 0xD8#8])
      (fun t => t.get16 .ax == 0xFFFF#16 && t.get16 .bx == 0x0001#16 && t.ip == 0x0002#16
        && t.flags.word == 0xF0BF#16) = true := by
  decide

/-- R255: `2D 00 10`. -/
theorem test_step_subAXIv :
    after (start ({ regs0 with ax := 0x1000#16 }) segs0 flags0 [] [0x2D#8, 0x00#8, 0x10#8])
      (fun t => t.get16 .ax == 0x0000#16 && t.ip == 0x0003#16 && t.flags.word == 0xF06E#16) = true := by
  decide

/-- R256: `30 0F`. -/
theorem test_step_xorEbGb :
   after (start ({ regs0 with bx := 0x0010#16, cx := 0x00FF#16 }) ({ segs0 with ds := 0x0100#16 }) flags0 [(0x1010,
      0xFF#8)] [0x30#8, 0x0F#8])
      (fun t => t.mem.read 0x1010 == 0x00#8 && t.get8 .cl == 0xFF#8 && t.ip == 0x0002#16 && t.flags.word == 0xF06E#16)
        = true := by
  decide

/-- R259: `33 16 00 02`. -/
theorem test_step_xorGvEv :
   after (start ({ regs0 with dx := 0x1234#16 }) segs0 flags0 [(0x200, 0x34#8), (0x201, 0x12#8)] [0x33#8, 0x16#8,
      0x00#8, 0x02#8])
      (fun t => t.get16 .dx == 0x0000#16 && t.ip == 0x0004#16 && t.flags.word == 0xF06E#16) = true := by
  decide

/-- R262: `38 0F`. -/
theorem test_step_cmpEbGb :
   after (start ({ regs0 with bx := 0x0010#16, cx := 0x0010#16 }) ({ segs0 with ds := 0x0100#16 }) flags0 [(0x1010,
      0x10#8)] [0x38#8, 0x0F#8])
      (fun t => t.mem.read 0x1010 == 0x10#8 && t.get8 .cl == 0x10#8 && t.ip == 0x0002#16 && t.flags.word == 0xF06E#16)
        = true := by
  decide

/-- R265: `3B 16 00 02`. -/
theorem test_step_cmpGvEv :
   after (start ({ regs0 with dx := 0x8000#16 }) segs0 flags0 [(0x200, 0xFF#8), (0x201, 0x7F#8)] [0x3B#8, 0x16#8,
      0x00#8, 0x02#8])
      (fun t => t.get16 .dx == 0x8000#16 && t.ip == 0x0004#16 && t.flags.word == 0xF83A#16) = true := by
  decide

/-- R270: `80 44 05 01`. -/
theorem test_step_addEbIb80 :
    after (start ({ regs0 with si := 0x0300#16 }) segs0 flags0 [(0x305, 0xFF#8)] [0x80#8, 0x44#8, 0x05#8, 0x01#8])
      (fun t => t.mem.read 0x305 == 0x00#8 && t.ip == 0x0004#16 && t.flags.word == 0xF07F#16) = true := by
  decide

/-- R275: `80 6C 05 01`. -/
theorem test_step_subEbIb80 :
    after (start ({ regs0 with si := 0x0300#16 }) segs0 flags0 [(0x305, 0x80#8)] [0x80#8, 0x6C#8, 0x05#8, 0x01#8])
      (fun t => t.mem.read 0x305 == 0x7F#8 && t.ip == 0x0004#16 && t.flags.word == 0xF83A#16) = true := by
  decide

/-- R277: `80 7C 05 06`. -/
theorem test_step_cmpEbIb80 :
    after (start ({ regs0 with si := 0x0300#16 }) segs0 flags0 [(0x305, 0x05#8)] [0x80#8, 0x7C#8, 0x05#8, 0x06#8])
      (fun t => t.mem.read 0x305 == 0x05#8 && t.ip == 0x0004#16 && t.flags.word == 0xF0BF#16) = true := by
  decide

/-- R279: `81 C9 34 00`. -/
theorem test_step_orEvIv81 :
    after (start ({ regs0 with cx := 0x1200#16 }) segs0 flags0 [] [0x81#8, 0xC9#8, 0x34#8, 0x00#8])
      (fun t => t.get16 .cx == 0x1234#16 && t.ip == 0x0004#16 && t.flags.word == 0xF02A#16) = true := by
  decide

/-- R281: `81 D9 01 00`. -/
theorem test_step_sbbEvIv81 :
   after (start ({ regs0 with cx := 0x8000#16 }) segs0 ({ flags0 with CF := true }) [] [0x81#8, 0xD9#8, 0x01#8,
      0x00#8])
      (fun t => t.get16 .cx == 0x7FFE#16 && t.ip == 0x0004#16 && t.flags.word == 0xF83A#16) = true := by
  decide

/-- R290: `82 E7 7E`. -/
theorem test_step_andEbIb82 :
    after (start ({ regs0 with bx := 0x8111#16 }) segs0 flags0 [] [0x82#8, 0xE7#8, 0x7E#8])
      (fun t => t.get16 .bx == 0x0011#16 && t.ip == 0x0003#16 && t.flags.word == 0xF06E#16) = true := by
  decide

/-- R292: `82 F7 80`. -/
theorem test_step_xorEbIb82 :
    after (start ({ regs0 with bx := 0x8011#16 }) segs0 flags0 [] [0x82#8, 0xF7#8, 0x80#8])
      (fun t => t.get16 .bx == 0x0011#16 && t.ip == 0x0003#16 && t.flags.word == 0xF06E#16) = true := by
  decide

/-- R296: `83 13 00`. -/
theorem test_step_adcEvIb83 :
   after (start ({ regs0 with bp := 0x0100#16, di := 0x0008#16 }) ({ segs0 with ss := 0x0050#16 })
      ({ flags0 with CF := true }) [(0x608, 0xFF#8), (0x609, 0x00#8)] [0x83#8, 0x13#8, 0x00#8])
      (fun t => t.mem.read 0x608 == 0x00#8 && t.mem.read 0x609 == 0x01#8 && t.ip == 0x0003#16
        && t.flags.word == 0xF03E#16) = true := by
  decide

/-- R298: `83 23 F0`. -/
theorem test_step_andEvIb83 :
   after (start ({ regs0 with bp := 0x0100#16, di := 0x0008#16 }) ({ segs0 with ss := 0x0050#16 }) flags0 [(0x608,
      0x34#8), (0x609, 0x12#8)] [0x83#8, 0x23#8, 0xF0#8])
      (fun t => t.mem.read 0x608 == 0x30#8 && t.mem.read 0x609 == 0x12#8 && t.ip == 0x0003#16
        && t.flags.word == 0xF02E#16) = true := by
  decide

/-- R299: `83 2B 01`. -/
theorem test_step_subEvIb83 :
   after (start ({ regs0 with bp := 0x0100#16, di := 0x0008#16 }) ({ segs0 with ss := 0x0050#16 }) flags0 [(0x608,
      0x00#8), (0x609, 0x00#8)] [0x83#8, 0x2B#8, 0x01#8])
      (fun t => t.mem.read 0x608 == 0xFF#8 && t.mem.read 0x609 == 0xFF#8 && t.ip == 0x0003#16
        && t.flags.word == 0xF0BF#16) = true := by
  decide

/-- R302: `84 07`. -/
theorem test_step_testEbGb :
    after (start ({ regs0 with bx := 0x0020#16, ax := 0x0080#16 }) segs0 flags0 [(0x20, 0x81#8)] [0x84#8, 0x07#8])
      (fun t => t.ip == 0x0002#16 && t.flags.word == 0xF0AA#16) = true := by
  decide

/-- R303: `85 C8`. -/
theorem test_step_testEvGv :
   after (start ({ regs0 with ax := 0x00F0#16, cx := 0x0F0F#16 }) segs0 ({ flags0 with CF := true, OF := true }) []
      [0x85#8, 0xC8#8])
      (fun t => t.ip == 0x0002#16 && t.flags.word == 0xF06E#16) = true := by
  decide

/-- 95_test_vectors.md 2.1: `B0 FF`. -/
theorem test_step_movALIb :
    after (start ({ regs0 with ax := 0x1234#16, bx := 0x0011#16, sp := 0xAAAA#16 }) segs0 flags0 [] [0xB0#8, 0xFF#8])
      (fun t => t.get16 .ax == 0x12FF#16) = true := by
  decide

/-- 95_test_vectors.md 2.1: `B4 FF`. -/
theorem test_step_movAHIb :
    after (start ({ regs0 with ax := 0x1234#16, bx := 0x0011#16, sp := 0xAAAA#16 }) segs0 flags0 [] [0xB4#8, 0xFF#8])
      (fun t => t.get16 .ax == 0xFF34#16 && t.get16 .sp == 0xAAAA#16) = true := by
  decide

/-- 95_test_vectors.md 2.1: `BC 00 01`. -/
theorem test_step_movSPIv :
   after (start ({ regs0 with ax := 0x1234#16, bx := 0x0011#16, sp := 0xAAAA#16 }) segs0 flags0 [] [0xBC#8, 0x00#8,
      0x01#8])
      (fun t => t.get16 .sp == 0x0100#16 && t.get16 .ax == 0x1234#16) = true := by
  decide

/-- 95_test_vectors.md 2.1: `86 E0`. -/
theorem test_step_xchgEbGb :
    after (start ({ regs0 with ax := 0x1234#16, bx := 0x0011#16, sp := 0xAAAA#16 }) segs0 flags0 [] [0x86#8, 0xE0#8])
      (fun t => t.get16 .ax == 0x3412#16) = true := by
  decide

/-- 95_test_vectors.md 2.1: `86 C7`. -/
theorem test_step_xchgEbGb_again :
    after (start ({ regs0 with ax := 0x1234#16, bx := 0x0011#16, sp := 0xAAAA#16 }) segs0 flags0 [] [0x86#8, 0xC7#8])
      (fun t => t.get16 .ax == 0x1200#16 && t.get16 .bx == 0x3411#16) = true := by
  decide

/-- 95_test_vectors.md 2.5: `0F 90`. -/
theorem test_step_undef0F :
    after (start regs0 segs0 flags0 [] [0x0F#8, 0x90#8])
      (fun t => t.ip == 0x0001#16) = true := by
  decide

/-- 95_test_vectors.md 3.3: `40`. -/
theorem test_step_incAX :
    after (start ({ regs0 with ax := 0xFFFF#16 }) segs0 ({ flags0 with CF := true }) [] [0x40#8])
      (fun t => t.get16 .ax == 0x0000#16 && t.ip == 0x0001#16 && t.flags.word == 0xF07F#16) = true := by
  decide

/-- 95_test_vectors.md 3.3: `44`. -/
theorem test_step_incSP :
    after (start ({ regs0 with sp := 0x7FFF#16 }) segs0 flags0 [] [0x44#8])
      (fun t => t.get16 .sp == 0x8000#16 && t.ip == 0x0001#16 && t.flags.word == 0xF8BE#16) = true := by
  decide

/-- 95_test_vectors.md 3.3: `4F`. -/
theorem test_step_decDI :
    after (start ({ regs0 with di := 0x0000#16 }) segs0 ({ flags0 with CF := true }) [] [0x4F#8])
      (fun t => t.get16 .di == 0xFFFF#16 && t.ip == 0x0001#16 && t.flags.word == 0xF0BF#16) = true := by
  decide

/-- 95_test_vectors.md 3.3: `4B`. -/
theorem test_step_decBX :
    after (start ({ regs0 with bx := 0x8000#16 }) segs0 flags0 [] [0x4B#8])
      (fun t => t.get16 .bx == 0x7FFF#16 && t.ip == 0x0001#16 && t.flags.word == 0xF83E#16) = true := by
  decide

/-- 95_test_vectors.md 3.3: `27`. -/
theorem test_step_daa :
    after (start ({ regs0 with ax := 0x007D#16 }) segs0 flags0 [] [0x27#8])
      (fun t => t.get8 .al == 0x83#8 && t.flags.word == 0xF0BA#16) = true := by
  decide

/-- 95_test_vectors.md 3.3: `27`. -/
theorem test_step_daa_again :
    after (start ({ regs0 with ax := 0x003C#16 }) segs0 flags0 [] [0x27#8])
      (fun t => t.get8 .al == 0x42#8 && t.flags.word == 0xF03E#16) = true := by
  decide

/-- 95_test_vectors.md 3.3: `2F`. -/
theorem test_step_das :
    after (start ({ regs0 with ax := 0x002F#16 }) segs0 flags0 [] [0x2F#8])
      (fun t => t.get8 .al == 0x29#8 && t.flags.word == 0xF03A#16) = true := by
  decide

/-- 95_test_vectors.md 3.3: `2F`. -/
theorem test_step_das_again :
    after (start ({ regs0 with ax := 0x000E#16 }) segs0 ({ flags0 with AF := true }) [] [0x2F#8])
      (fun t => t.get8 .al == 0x08#8 && t.flags.word == 0xF03A#16) = true := by
  decide

/-- 95_test_vectors.md 3.3: `37`. -/
theorem test_step_aaa :
    after (start ({ regs0 with ax := 0x000E#16 }) segs0 ({ flags0 with ZF := true }) [] [0x37#8])
      (fun t => t.get16 .ax == 0x0104#16 && t.flags.word == 0xF07B#16) = true := by
  decide

/-- 95_test_vectors.md 3.3: `37`. -/
theorem test_step_aaa_again :
    after (start ({ regs0 with ax := 0x0205#16 }) segs0 ({ flags0 with ZF := true }) [] [0x37#8])
      (fun t => t.get16 .ax == 0x0205#16 && t.flags.word == 0xF06A#16) = true := by
  decide

/-- 95_test_vectors.md 3.3: `3F`. -/
theorem test_step_aas :
    after (start ({ regs0 with ax := 0x020D#16 }) segs0 ({ flags0 with ZF := true }) [] [0x3F#8])
      (fun t => t.get16 .ax == 0x0107#16 && t.flags.word == 0xF07B#16) = true := by
  decide

/-- 95_test_vectors.md 3.3: `3F`. -/
theorem test_step_aas_again :
    after (start ({ regs0 with ax := 0x0203#16 }) segs0 ({ flags0 with ZF := true }) [] [0x3F#8])
      (fun t => t.get16 .ax == 0x0203#16 && t.flags.word == 0xF06A#16) = true := by
  decide

/-- 95_test_vectors.md 3.4: `A0 34 02`. -/
theorem test_step_movALMem :
    after (start regs0 ({ segs0 with ds := 0x0100#16 }) flags0 [(0x1234, 0x5A#8)] [0xA0#8, 0x34#8, 0x02#8])
      (fun t => t.get8 .al == 0x5A#8 && t.ip == 0x0003#16) = true := by
  decide

/-- 95_test_vectors.md 3.4: `A3 34 02`. -/
theorem test_step_movMemAX :
    after (start ({ regs0 with ax := 0xBEEF#16 }) ({ segs0 with ds := 0x0100#16 }) flags0 [] [0xA3#8, 0x34#8, 0x02#8])
      (fun t => t.mem.read 0x1234 == 0xEF#8 && t.mem.read 0x1235 == 0xBE#8 && t.ip == 0x0003#16) = true := by
  decide

/-- 95_test_vectors.md 3.4: `87 D8`. -/
theorem test_step_xchgEvGv :
    after (start ({ regs0 with ax := 0x1111#16, bx := 0x2222#16 }) segs0 flags0 [] [0x87#8, 0xD8#8])
      (fun t => t.get16 .ax == 0x2222#16 && t.get16 .bx == 0x1111#16 && t.ip == 0x0002#16
        && t.flags.word == 0xF02A#16) = true := by
  decide

/-- 95_test_vectors.md 3.4: `93`. -/
theorem test_step_xchgAXBX :
    after (start ({ regs0 with ax := 0x1111#16, bx := 0x2222#16 }) segs0 flags0 [] [0x93#8])
      (fun t => t.get16 .ax == 0x2222#16 && t.get16 .bx == 0x1111#16 && t.ip == 0x0001#16) = true := by
  decide

/-- 95_test_vectors.md 3.4: `87 D2`. -/
theorem test_step_xchgEvGv_again :
    after (start ({ regs0 with dx := 0xABCD#16 }) segs0 flags0 [] [0x87#8, 0xD2#8])
      (fun t => t.get16 .dx == 0xABCD#16 && t.ip == 0x0002#16) = true := by
  decide

/-- 95_test_vectors.md 3.4: `90`. -/
theorem test_step_nop :
    after (start ({ regs0 with ax := 0x1234#16 }) segs0 flags0 [] [0x90#8])
      (fun t => t.get16 .ax == 0x1234#16 && t.ip == 0x0001#16 && t.flags.word == 0xF02A#16) = true := by
  decide

/-- 95_test_vectors.md 3.4: `50`. -/
theorem test_step_pushAX :
    after (start ({ regs0 with sp := 0x0100#16, ax := 0x1234#16 }) segs0 flags0 [] [0x50#8])
      (fun t => t.mem.read 0xFE == 0x34#8 && t.mem.read 0xFF == 0x12#8 && t.get16 .sp == 0x00FE#16
        && t.ip == 0x0001#16) = true := by
  decide

/-- 95_test_vectors.md 3.4: `53`. -/
theorem test_step_pushBX :
   after (start ({ regs0 with sp := 0x0000#16, bx := 0xCAFE#16 }) ({ segs0 with ss := 0x1000#16 }) flags0 [] [0x53#8])
      (fun t => t.mem.read 0x1FFFE == 0xFE#8 && t.mem.read 0x1FFFF == 0xCA#8 && t.get16 .sp == 0xFFFE#16
        && t.ip == 0x0001#16) = true := by
  decide

/-- 95_test_vectors.md 3.4: `54`. -/
theorem test_step_pushSP :
    after (start ({ regs0 with sp := 0x0100#16 }) segs0 flags0 [] [0x54#8])
      (fun t => t.mem.read 0xFE == 0x00#8 && t.mem.read 0xFF == 0x01#8 && t.get16 .sp == 0x00FE#16
        && t.ip == 0x0001#16) = true := by
  decide

/-- 95_test_vectors.md 3.4: `5A`. -/
theorem test_step_popDX :
    after (start ({ regs0 with sp := 0x00FE#16 }) segs0 flags0 [(0xFE, 0x34#8), (0xFF, 0x12#8)] [0x5A#8])
      (fun t => t.get16 .dx == 0x1234#16 && t.get16 .sp == 0x0100#16 && t.ip == 0x0001#16) = true := by
  decide

/-- 95_test_vectors.md 3.4: `5C`. -/
theorem test_step_popSP :
    after (start ({ regs0 with sp := 0x00FE#16 }) segs0 flags0 [(0xFE, 0x00#8), (0xFF, 0x20#8)] [0x5C#8])
      (fun t => t.get16 .sp == 0x2000#16 && t.ip == 0x0001#16) = true := by
  decide

/-- 95_test_vectors.md 3.4: `5F`. -/
theorem test_step_popDI :
   after (start ({ regs0 with sp := 0xFFFE#16 }) ({ segs0 with ss := 0x1000#16 }) flags0 [(0x1FFFE, 0x78#8), (0x1FFFF,
      0x56#8)] [0x5F#8])
      (fun t => t.get16 .di == 0x5678#16 && t.get16 .sp == 0x0000#16 && t.ip == 0x0001#16) = true := by
  decide

/-- 95_test_vectors.md 3.5: `74 10`. -/
theorem test_step_jzRel8 :
    after (start regs0 segs0 ({ flags0 with ZF := true }) [] [0x74#8, 0x10#8])
      (fun t => t.ip == 0x0012#16) = true := by
  decide

/-- 95_test_vectors.md 3.5: `76 80`. -/
theorem test_step_jbeRel8 :
    after (start regs0 segs0 ({ flags0 with CF := true }) [] [0x76#8, 0x80#8])
      (fun t => t.ip == 0xFF82#16) = true := by
  decide

/-- 95_test_vectors.md 3.5: `7C 7F`. -/
theorem test_step_jlRel8 :
    after (start regs0 segs0 ({ flags0 with SF := true }) [] [0x7C#8, 0x7F#8])
      (fun t => t.ip == 0x0081#16) = true := by
  decide

/-- 95_test_vectors.md 3.5: `7F 02`. -/
theorem test_step_jgRel8 :
    after (start regs0 segs0 ({ flags0 with SF := true, OF := true }) [] [0x7F#8, 0x02#8])
      (fun t => t.ip == 0x0004#16) = true := by
  decide

/-- 95_test_vectors.md 3.5: `7B 02`. -/
theorem test_step_jpoRel8 :
    after (start regs0 segs0 ({ flags0 with PF := true }) [] [0x7B#8, 0x02#8])
      (fun t => t.ip == 0x0002#16) = true := by
  decide

/-- 95_test_vectors.md 3.5: `EB 00`. -/
theorem test_step_jmpRel8 :
    after (start regs0 segs0 flags0 [] [0xEB#8, 0x00#8])
      (fun t => t.ip == 0x0002#16) = true := by
  decide

/-! ### More single steps: the dispatch core, the stack and word wrap -/

/-- R193, 42_dispatch_core.md: `26` latches ES and consumes no budget. -/
theorem test_step_prefixES :
    after (start regs0 { segs0 with es := 0x2000#16 } flags0 [] [0x26#8, 0xA1#8])
      (fun t => t.tr.seg == 0x2000#16 && t.tr.segOverride && t.budget == 1 && t.ip == 1#16) = true := by
  decide

/-- S6: `A1 00 00` under the ES override loads the word at ES:0 and ends the override. -/
theorem test_step_s6 :
    after { start regs0 { segs0 with es := 0x2000#16 } flags0 [(0x20000, 0xCD#8), (0x20001, 0xAB#8)]
              [0xA1#8, 0x00#8, 0x00#8] with
            tr := { State.reset.tr with seg := 0x2000#16, segOverride := true } }
      (fun t => t.get16 .ax == 0xABCD#16 && !t.tr.segOverride && t.budget == 0) = true := by
  decide

/-- R195: `F3` writes `rep`; R106: the last one before an instruction wins. -/
theorem test_step_rep :
    after { plain [0xF3#8, 0x90#8] with tr := { State.reset.tr with rep := .repne } }
      (fun t => t.tr.rep == .repe && t.budget == 1 && t.ip == 1#16) = true := by
  decide

/-- R200: `F4` halts with IP past it. -/
theorem test_step_hlt_ip : after (plain [0xF4#8]) (fun t => t.halted && t.ip == 1#16 && t.budget == 0) = true := by
  decide

/-- R198: ESC `D8` is a one-byte no-op; the byte after it is left for the next fetch. -/
theorem test_step_escD8 :
    after (plain [0xD8#8, 0xC0#8]) (fun t => t.ip == 1#16 && t.regs == regs0 && t.flags == flags0) = true := by
  decide

/-- R199, 95_test_vectors.md 2.5: `CD 21` is refused at 0000:0000. -/
theorem test_refused_int :
    refuses (plain [0xCD#8, 0x21#8]) (.uncoveredOpcode 0xCD#8 0#16 0#16) = true := by
  decide

/-- R104: `C3` (RET) has no meaning in this spec; nor has `8B`. -/
theorem test_refused_ret_mov :
    (refuses (plain [0xC3#8]) (.uncoveredOpcode 0xC3#8 0#16 0#16) &&
      refuses (plain [0x8B#8, 0xC3#8]) (.uncoveredOpcode 0x8B#8 0#16 0#16)) = true := by
  decide

/-- R344, C6: PUSH SP stores the SP of before the decrement; with SP = 0 it lands at SS:FFFE. -/
theorem test_step_push_sp :
    after (plain [0x54#8])
      (fun t => t.get16 .sp == 0xFFFE#16 && t.mem.read 0xFFFE == 0x00#8 && t.mem.read 0xFFFF == 0x00#8) = true := by
  decide

/-- R345: POP SP leaves the popped word. -/
theorem test_step_pop_sp :
    after (start { regs0 with sp := 0x0100#16 } segs0 flags0 [(0x100, 0x34#8), (0x101, 0x12#8)] [0x5C#8])
      (fun t => t.get16 .sp == 0x1234#16) = true := by
  decide

/-- R64: a word stored at offset FFFF has its high byte at offset 0 of the same segment. -/
theorem test_step_word_wrap :
    after (start { regs0 with ax := 0xBEEF#16 } { segs0 with ds := 0x1000#16 } flags0 [] [0xA3#8, 0xFF#8, 0xFF#8])
      (fun t => t.mem.read 0x1FFFF == 0xEF#8 && t.mem.read 0x10000 == 0xBE#8) = true := by
  decide

/-- R62: FFFF:0010 is physical 0, so the store lands on the instruction's own first byte. -/
theorem test_step_address_wrap :
    after (start { regs0 with ax := 0x0077#16 } { segs0 with ds := 0xFFFF#16 } flags0 [] [0xA2#8, 0x10#8, 0x00#8])
      (fun t => t.mem.read 0 == 0x77#8) = true := by
  decide

/-- R33: the bytes of one instruction may wrap from offset FFFF to 0. -/
theorem test_step_ip_wrap :
    after { plain [] with ip := 0xFFFF#16, mem := Memory.place [] 0#16 0xFFFF#16 [0xB8#8, 0x34#8, 0x12#8] }
      (fun t => t.get16 .ax == 0x1234#16 && t.ip == 2#16) = true := by
  decide

/-- R314 on 0x99 + 0x66 = 0xFF: the first step wraps, so AL = 0x05 and CF stays 0 (log 8). -/
theorem test_step_daa_lost_carry :
    after (start { regs0 with ax := 0x00FF#16 } segs0 flags0 [] [0x27#8])
      (fun t => t.get8 .al == 0x05#8 && !t.flags.CF && t.flags.AF) = true := by
  decide

/-- R41: reset, and the host's view of it: FLAGS slots of the reserved bits read 1 (R46). -/
theorem test_reset_image :
    (State.reset.flags.word == 0xF02A#16 && hostRead State.reset 25 == some 1#8 && hostRead State.reset 24 == some 0#8 &&
      hostRead State.reset 1048615 == some 0#8 && hostRead State.reset 1048616 == none) = true := by
  decide

/-- The log's promise: a placed word is the first instruction run after reset. -/
theorem test_placed_word :
    after (State.reset.withFetchWord 24 0x1234B8) (fun t => t.get16 .ax == 0x1234#16 && t.ip == 3#16) = true := by
  decide

/-! ### The settings of R6 -/

/-- R198: a byte put into `UNDEF_SET` is the one-byte no-op: INC AX, the group-1 opcode 80, RET and the ES prefix. -/
theorem test_settings_undef :
    [[0x40#8], [0x80#8, 0xC0#8, 0x01#8], [0xC3#8], [0x26#8, 0x40#8]].all (fun program =>
      after (under { Config.params with undefSet := [0x40#8, 0x80#8, 0xC3#8, 0x26#8] } program) (fun t =>
        t.ip == 1#16 && t.budget == 0 && t.regs == regs0 && t.flags == flags0 && !t.halted && !t.tr.segOverride)) = true := by
  decide

/-- R200, R201: a byte put into `HALT_SET` halts with IP past it: NOP, and INT, which has no meaning of its own. -/
theorem test_settings_halt :
    [[0x90#8], [0xCD#8, 0x21#8]].all (fun program =>
      after (under { Config.params with haltSet := [0x90#8, 0xCD#8] } program) (fun t =>
        t.halted && t.ip == 1#16 && t.budget == 0 && t.regs == regs0)) = true := by
  decide

/-- R14: a byte taken out of its set is outside both sets and has no meaning. -/
theorem test_settings_taken_out :
    (refuses (under { Config.params with haltSet := [] } [0xF4#8]) (.uncoveredOpcode 0xF4#8 0#16 0#16) &&
      refuses (under { Config.params with undefSet := [] } [0x0F#8]) (.uncoveredOpcode 0x0F#8 0#16 0#16)) = true := by
  decide

/-- R138, U1: under `any` a logical operation takes one free value for AF, and an addition none. -/
theorem test_settings_logic_af :
    ([0x24#8, 0x04#8].map fun op =>
        after (under { Config.params with logicAf := .any } [op, 0x00#8]) (fun t => t.draws == 1)) = [true, false] ∧
      (under { Config.params with logicAf := .any } []).logicAf = Config.freeFlag 0 :=
  ⟨by decide, rfl⟩

/-- R318, U2: under `any` DAA takes one free value, for OF, and AAA four. -/
theorem test_settings_bcd :
    (after (under { Config.params with bcdSideFlags := .any } [0x27#8]) (fun t => t.draws == 1 && t.flags.ZF) &&
      after (under { Config.params with bcdSideFlags := .any } [0x37#8]) (fun t => t.draws == 4 && !t.flags.CF)) = true := by
  decide

/-! ### Witnesses for the hypotheses of the statements -/

/-- `DecodeOfEncodeIsTheInstruction`: the deepest forms and an uncovered opcode. -/
theorem witness_decode_of_encode :
    (Instr.addEbGb .bh (.mem (.disp8 .bp 0xFF#8))).wf = true ∧ (Instr.addEvIv81 (.mem (.direct 0xFFFF#16)) 0xFFFF#16).wf = true ∧
      (Instr.grp5Ev).wf = true := by
  decide

/-- `EncodeOfDecodeIsTheBytes`. -/
theorem witness_encode_of_decode :
    decode [0x81#8, 0x87#8, 0xFF#8, 0xFF#8, 0x34#8, 0x12#8, 0x90#8] =
      .ok (.addEvIv81 (.mem (.disp16 .bx 0xFFFF#16)) 0x1234#16, [0x90#8]) :=
  rfl

/-- `SixBytesAlwaysDecode`. -/
theorem witness_six_bytes : 6 ≤ [0x90#8, 0#8, 0#8, 0#8, 0#8, 0#8].length := by decide

/-- `LengthFollowsTheFormat`: the longest and a one-byte instruction. -/
theorem witness_length_follows :
    (0x81#8 ∉ uncoveredOpcodes.map Prod.fst ∧
      decode (0x81#8 :: 0x87#8 :: [0xFF#8, 0xFF#8, 0x34#8, 0x12#8]) =
        .ok (.addEvIv81 (.mem (.disp16 .bx 0xFFFF#16)) 0x1234#16, [])) ∧
    (0x90#8 ∉ uncoveredOpcodes.map Prod.fst ∧ decode (0x90#8 :: 0x87#8 :: []) = .ok (.nop, [0x87#8])) :=
  ⟨⟨by decide, rfl⟩, by decide, rfl⟩

/-- `OpcodeByteDecidesTheClass`: a prefix, an undefined, an uncovered and an ordinary opcode. -/
theorem witness_opcode_class :
    decode (0xF3#8 :: []) = .ok (.rep, []) ∧ decode (0xF1#8 :: []) = .ok (.undefF1, []) ∧
      decode (0xFF#8 :: []) = .ok (.grp5Ev, []) ∧ decode (0x90#8 :: []) = .ok (.nop, []) :=
  ⟨rfl, rfl, rfl, rfl⟩

/-- `ReservedFlagBitsReadOne`: a reserved bit, the lowest and highest defined bits, and another bit. -/
theorem witness_reserved_flags :
    (15 < 16 ∧ isFlagBit 15 = false) ∧ (0 < 16 ∧ isFlagBit 0 = true) ∧ (11 < 16 ∧ isFlagBit 11 = true) ∧ 2 ≠ 11 := by
  decide

/-- `AluWithDestinationEFrame`, `AluWithRegisterDestinationFrame`, `ModRMFieldsAreRecorded`: each of the forms completes, CMP included. -/
theorem witness_alu_frames (s : State) :
    (∃ t, exec (opEbGb .cmp .al (.mem (.direct 0#16))) s = .next t) ∧
    (∃ t, exec (group80 .add (.reg .bh) 0xFF#8) s = .next t) ∧ (∃ t, exec (group82 .xor (.mem (.base .bx)) 1#8) s = .next t) ∧
    (∃ t, exec (opEvGv .sbb .di (.mem (.direct 0xFFFF#16))) s = .next t) ∧
    (∃ t, exec (group81 .or (.reg .sp) 0xFFFF#16) s = .next t) ∧ (∃ t, exec (group83 .cmp (.reg .ax) 0x80#8) s = .next t) ∧
    (∃ t, exec (opGbEb .adc .al (.reg .al)) s = .next t) ∧ (∃ t, exec (opGvEv .cmp .ax (.reg .ax)) s = .next t) ∧
    (∃ t, exec (opALIb .sub 0xFF#8) s = .next t) ∧ (∃ t, exec (opAXIv .and 0#16) s = .next t) :=
  ⟨⟨_, rfl⟩, ⟨_, rfl⟩, ⟨_, rfl⟩, ⟨_, rfl⟩, ⟨_, rfl⟩, ⟨_, rfl⟩, ⟨_, rfl⟩, ⟨_, rfl⟩, ⟨_, rfl⟩, ⟨_, rfl⟩⟩

/-- `ComparisonDecidesTheJumps`: each form. -/
theorem witness_comparison (s : State) :
    (∃ t, exec (.cmpEbGb .al (.reg .ah)) s = .next t) ∧ (∃ t, exec (.cmpGbEb .al (.mem (.base .si))) s = .next t) ∧
    (∃ t, exec (.cmpALIb 0x80#8) s = .next t) ∧ (∃ t, exec (.cmpEbIb80 (.reg .al) 0xFF#8) s = .next t) ∧
    (∃ t, exec (.cmpEbIb82 (.reg .al) 0xFF#8) s = .next t) ∧ (∃ t, exec (.cmpEvGv .ax (.reg .cx)) s = .next t) ∧
    (∃ t, exec (.cmpGvEv .ax (.mem (.direct 0xFFFF#16))) s = .next t) ∧ (∃ t, exec (.cmpAXIv 0x8000#16) s = .next t) ∧
    (∃ t, exec (.cmpEvIv81 (.reg .ax) 0#16) s = .next t) ∧ (∃ t, exec (.cmpEvIb83 (.reg .ax) 0xFF#8) s = .next t) :=
  ⟨⟨_, rfl⟩, ⟨_, rfl⟩, ⟨_, rfl⟩, ⟨_, rfl⟩, ⟨_, rfl⟩, ⟨_, rfl⟩, ⟨_, rfl⟩, ⟨_, rfl⟩, ⟨_, rfl⟩, ⟨_, rfl⟩⟩

/-- `ModRMFieldsAreRecorded`: the forms outside the frame witness. -/
theorem witness_modrm (s : State) :
    (∃ t, exec (.testEbGb .al (.reg .bh)) s = .next t) ∧ (∃ t, exec (.xchgEbGb .al (.mem (.disp8 .bp 0xFF#8))) s = .next t) ∧
    (∃ t, exec (.testEvGv .ax (.mem (.direct 0#16))) s = .next t) ∧ (∃ t, exec (.xchgEvGv .di (.reg .ax)) s = .next t) :=
  ⟨⟨_, rfl⟩, ⟨_, rfl⟩, ⟨_, rfl⟩, ⟨_, rfl⟩⟩

/-- `DaaCorrectsDecimalSums`: the largest decimal sum below the excluded range, 0x99 + 0x60 = 0xF9, and the smallest, 0. -/
theorem witness_daa_sums :
    (ValidBcd ((State.reset.set8 .al 0x99#8).get8 .al) ∧ ValidBcd 0x60#8 ∧
      ((State.reset.set8 .al 0x99#8).get8 .al).toNat + (0x60#8 : Byte).toNat ∉ List.range' 0xFA 6 ∧
      ∃ t u, exec (.addALIb 0x60#8) (State.reset.set8 .al 0x99#8) = .next t ∧ exec .daa t = .next u) ∧
    (ValidBcd (State.reset.get8 .al) ∧ ValidBcd 0x00#8 ∧
      (State.reset.get8 .al).toNat + (0x00#8 : Byte).toNat ∉ List.range' 0xFA 6) :=
  ⟨⟨⟨by decide, by decide⟩, ⟨by decide, by decide⟩, by decide, _, _, rfl, rfl⟩,
   ⟨by decide, by decide⟩, ⟨by decide, by decide⟩, by decide⟩

/-- `DaaCorrectsEveryDecimalSum`: the sum the claim fails on: 0x99 + 0x66. -/
theorem witness_daa_every_sum :
    ValidBcd ((State.reset.set8 .al 0x99#8).get8 .al) ∧ ValidBcd 0x66#8 ∧
      ∃ t u, exec (.addALIb 0x66#8) (State.reset.set8 .al 0x99#8) = .next t ∧ exec .daa t = .next u :=
  ⟨⟨by decide, by decide⟩, ⟨by decide, by decide⟩, _, _, rfl, rfl⟩

/-- `DasCorrectsDecimalDifferences`. -/
theorem witness_das_differences :
    ValidBcd (State.reset.get8 .al) ∧ ValidBcd 0x99#8 ∧
      ∃ t u, exec (.subALIb 0x99#8) State.reset = .next t ∧ exec .das t = .next u :=
  ⟨⟨by decide, by decide⟩, ⟨by decide, by decide⟩, _, _, rfl, rfl⟩

/-- `ExchangeTwiceRestores`: a register operand, a memory operand whose base is not exchanged, and the form with AX. -/
theorem witness_exchange_twice (s : State) :
    (∃ t u, exec (.xchgEbGb .ah (.reg .al)) s = .next t ∧ exec (.xchgEbGb .ah (.reg .al)) t = .next u ∧
      ∀ a, Operand.reg Reg8.al = .mem a → memOff t a = memOff s a) ∧
    (∃ t u, exec (.xchgEvGv .cx (.mem (.direct 0xFFFF#16))) s = .next t ∧
      exec (.xchgEvGv .cx (.mem (.direct 0xFFFF#16))) t = .next u ∧
      ∀ a, (Operand.mem (.direct 0xFFFF#16) : Operand Reg16) = .mem a → memOff t a = memOff s a) ∧
    (∃ t u, exec (xchgWithAX .di) s = .next t ∧ exec (xchgWithAX .di) t = .next u) := by
  refine ⟨⟨_, _, rfl, rfl, fun a h => ?_⟩, ⟨_, _, rfl, rfl, fun a h => ?_⟩, ⟨_, _, rfl, rfl⟩⟩
  · cases h
  · cases h
    rfl

/-- `PushThenPopIsTheIdentity`. -/
theorem witness_push_pop (s : State) : ∃ t u, exec (pushReg16 .sp) s = .next t ∧ exec (popReg16 .di) t = .next u :=
  ⟨_, _, rfl, rfl⟩

/-- `JumpsComplete`: JL is taken when SF differs from OF and not when they agree. -/
theorem witness_jumps : Taken .jl { flags0 with SF := true } ∧ ¬ Taken .jl flags0 := by
  constructor
  · show true ≠ false
    decide
  · show ¬ (false ≠ false)
    decide

/-- `UndefinedOpcodesAreNoOps`: the first and the last. -/
theorem witness_undefined : (0x0F#8, Instr.undef0F) ∈ undefinedOpcodes ∧ (0xF1#8, Instr.undefF1) ∈ undefinedOpcodes := by
  decide

/-- `UncoveredOpcodesAreRefused`: the first and the last. -/
theorem witness_uncovered : (0x06#8, Instr.pushES) ∈ uncoveredOpcodes ∧ (0xFF#8, Instr.grp5Ev) ∈ uncoveredOpcodes := by
  decide

/-- `StepRunsTheDecodedInstruction`, `OnlyJumpsWriteIP`, `NoStepWritesSegmentsOrControlFlags`: a running loop at a prefix, at
another instruction, and at HLT, each with its own entry. -/
theorem witness_running :
    ((plain [0x26#8]).budget ≠ 0 ∧ (plain [0x26#8]).halted = false ∧ (plain [0x26#8]).idle = false ∧
      KeepsEntry (plain [0x26#8]).params ((plain [0x26#8]).read8 ((plain [0x26#8]).getSeg .cs) (plain [0x26#8]).ip) ∧
      ∃ rest, decode ((plain [0x26#8]).mem.fetch ((plain [0x26#8]).getSeg .cs) (plain [0x26#8]).ip 6) =
        .ok (.prefixES, rest)) ∧
    ((plain [0x40#8]).idle = false ∧ KeepsEntry Config.params 0x40#8 ∧
      ∃ rest t, decode (plain [0x40#8]).fetchWindow = .ok (.incAX, rest) ∧ step (plain [0x40#8]) = .next t) ∧
    ((plain [0xF4#8]).idle = false ∧ KeepsEntry Config.params 0xF4#8 ∧
      ∃ rest t, decode (plain [0xF4#8]).fetchWindow = .ok (.hlt, rest) ∧ step (plain [0xF4#8]) = .next t) :=
  ⟨⟨by decide, rfl, rfl, ⟨by decide, by decide⟩, _, rfl⟩, ⟨rfl, ⟨by decide, by decide⟩, _, _, rfl, rfl⟩, rfl,
   ⟨by decide, by decide⟩, _, _, rfl, rfl⟩

/-- `OnlyJumpsWriteIP`, `BudgetCountsNonPrefixInstructions`, `SettingsInstallHaltAndNoOp`: a running loop at a byte whose entry a
setting replaces, RET in `UNDEF_SET` and a prefix in `HALT_SET`; and at a prefix. -/
theorem witness_replaced :
    ((under { Config.params with undefSet := [0xC3#8] } [0xC3#8]).idle = false ∧
      ¬ KeepsEntry { Config.params with undefSet := [0xC3#8] } 0xC3#8 ∧
      0xC3#8 ∉ Config.haltSet ∧ ∃ t, step (under { Config.params with undefSet := [0xC3#8] } [0xC3#8]) = .next t) ∧
    ((under { Config.params with haltSet := [0x26#8] } [0x26#8]).budget ≠ 0 ∧
      ¬ IsPrefixByte { Config.params with haltSet := [0x26#8] } 0x26#8 ∧
      ∃ t, step (under { Config.params with haltSet := [0x26#8] } [0x26#8]) = .next t) ∧
    IsPrefixByte (plain [0x26#8]).params 0x26#8 ∧ ∃ t, step (plain [0x26#8]) = .next t :=
  ⟨⟨rfl, fun h => absurd h.2 (by decide), by decide, _, rfl⟩, ⟨by decide, fun h => absurd h.2.1 (by decide), _, rfl⟩,
   ⟨by decide, by decide, by decide⟩, _, rfl⟩

/-- `NoWorkWithoutBudgetOrWhenHalted`: each disjunct. -/
theorem witness_idle : State.reset.budget = 0 ∧ { State.reset with budget := 1, halted := true }.halted = true :=
  ⟨rfl, rfl⟩

/-- `StepStopsOnlyOnUncoveredOpcodes`: a running loop at a covered byte, at one of the 81, at one of the 81 a setting makes a
no-op, and at a byte a setting takes its handler from. -/
theorem witness_step_stops :
    ((plain [0x40#8]).idle = false ∧ ¬ IsUncovered (plain [0x40#8]).params 0x40#8) ∧
    ((plain [0xC3#8]).idle = false ∧ IsUncovered (plain [0xC3#8]).params 0xC3#8) ∧
    ¬ IsUncovered { Config.params with undefSet := [0xC3#8] } 0xC3#8 ∧
    IsUncovered { Config.params with haltSet := [] } 0xF4#8 :=
  ⟨⟨rfl, fun h => absurd h.2.2 (by decide)⟩, ⟨rfl, by decide, by decide, by decide⟩,
   fun h => absurd h.2.1 (by decide), by decide, by decide, by decide⟩

/-- `PlacedInstructionIsTheOneRun`: the shortest and the longest instruction. -/
theorem witness_placed :
    decodeTableWord 8 0x90 = some .nop ∧ KeepsEntry State.reset.params 0x90#8 ∧
      decodeTableWord 48 0x1234FFFF8781 = some (.addEvIv81 (.mem (.disp16 .bx 0xFFFF#16)) 0x1234#16) ∧
      KeepsEntry State.reset.params 0x81#8 :=
  ⟨by decide, ⟨by decide, by decide⟩, by decide, by decide, by decide⟩

/-- `OnlyJumpsWriteIP`: INC AX is no jump. -/
theorem witness_no_jump : ¬ IsJump .incAX := by
  rintro (⟨c, d, h⟩ | ⟨d, h⟩)
  · cases c <;> cases h
  · cases h

/-- RAM in which every byte of segment 0 is the ES prefix. -/
def prefixRam : Memory := (List.range' 0 65536).map fun a => (a, 0x26#8)

theorem read_filled (k n a : Nat) (v : Byte) (h : k ≤ a) (h' : a < k + n) :
    Memory.read ((List.range' k n).map fun a => (a, v)) a = v := by
  induction n generalizing k with
  | zero => omega
  | succ n ih =>
    rw [List.range'_succ, List.map_cons, Memory.read]
    by_cases e : k = a
    · simp [e]
    · rw [if_neg e]
      exact ih (k + 1) (by omega) (by omega)

theorem phys_zero (off : Word) : (phys 0#16 off).toNat = off.toNat := by
  have h := off.isLt
  rw [phys_toNat]
  simp only [BitVec.toNat_ofNat]
  omega

/-- `PrefixStreamNeverReturns`. -/
theorem witness_prefix_stream (s : State) (h : s = { State.reset with budget := 1, mem := prefixRam }) :
    s.budget ≠ 0 ∧ s.halted = false ∧ ∀ off : Word, IsPrefixByte s.params (s.read8 (s.getSeg .cs) off) := by
  subst h
  refine ⟨by decide, rfl, fun off => ?_⟩
  have e : Memory.read prefixRam (phys 0#16 off).toNat = 0x26#8 := by
    rw [phys_zero]
    exact read_filled 0 65536 off.toNat _ (Nat.zero_le _) (by have := off.isLt; omega)
  show IsPrefixByte Config.params (Memory.read prefixRam (phys 0#16 off).toNat)
  rw [e]
  exact ⟨by decide, by decide, by decide⟩

/-- `ExecuteResumes`: two NOPs, run by two calls of `execute`. -/
theorem witness_execute_resumes :
    ∃ t u, Executes 1 { plain [0x90#8, 0x90#8] with budget := 0 } t ∧ t.halted = false ∧ Executes 1 t u :=
  ⟨{ plain [0x90#8, 0x90#8] with budget := 0, ip := 1#16 }, { plain [0x90#8, 0x90#8] with budget := 0, ip := 2#16 },
   ⟨rfl, rfl, 1, rfl⟩, rfl, rfl, rfl, 1, rfl⟩

theorem reset_memory_wf : State.reset.mem.wf = true := by decide

/-- `StepKeepsGoodStates`, and a good state with an override pending. -/
theorem witness_good_step :
    (plain [0x36#8]).Good ∧ (∃ t, step (plain [0x36#8]) = .next t) ∧
    State.Good { plain [0x90#8] with tr := { State.reset.tr with seg := 0#16, segOverride := true } } :=
  ⟨⟨by decide, fun h => absurd h (by decide), fun h => absurd h (by decide)⟩, ⟨_, rfl⟩,
   ⟨by decide, fun h => absurd h (by decide), fun _ => ⟨.ss, rfl⟩⟩⟩

/-- `HostActionsKeepGoodStates`, `HostResetKeepsRam`: each action. -/
theorem witness_host_actions :
    { State.reset with halted := true }.Good ∧ { State.reset with halted := true }.idle = true ∧
      ∃ t u v, hostAct (.reset 0xFFFF#16) { State.reset with halted := true } = .next t ∧
        hostAct (.execute 3) { State.reset with halted := true } = .next u ∧
        hostAct (.write 24 1#8) { State.reset with halted := true } = .next v :=
  ⟨⟨by decide, fun _ => ⟨rfl, rfl⟩, fun h => absurd h (by decide)⟩, rfl, _, _, _, rfl, rfl, rfl⟩

/-- `ReachableStatesAreGood`. -/
theorem witness_reachable : Reachable (State.resetWith Config.params 0x0100#16 [(0xFFFFF, 0xEA#8)]) :=
  .reset _ _ _ (by decide)

/-- The settings a premise of the ALU and BCD statements names: the default has them. -/
theorem witness_settings : State.reset.params.logicAf = .zero ∧ State.reset.params.bcdSideFlags = .asRules := ⟨rfl, rfl⟩

/-- `HostImageReadsBack`, `HostImageLayout`: the first and last offset of each part of the host image, a reserved flag slot with any
byte, a defined one with 0 or 1 and, for the refusal, with 2; and the bounds of the layout's clauses. -/
theorem witness_host_image :
    State.reset.idle = true ∧ [0, 15, 16, 23, 40, 1048615].all (fun o => decide (o < 1048616 ∧ ¬ (24 ≤ o ∧ o < 40))) = true ∧
      [25, 39].all (fun o => decide (o < 1048616 ∧ 24 ≤ o ∧ o < 40 ∧ o ∈ [25, 27, 29, 36, 37, 38, 39])) = true ∧
      [24, 35].all (fun o => decide (o < 1048616 ∧ 24 ≤ o ∧ o < 40 ∧ o ∉ [25, 27, 29, 36, 37, 38, 39])) = true ∧
      ((1#8 : Byte) = 0#8 ∨ (1#8 : Byte) = 1#8) ∧
      [0, 11].all (fun k => decide (k ∈ [0, 2, 4, 6, 7, 8, 9, 10, 11])) = true ∧ (2#8 : Byte) ≠ 0#8 ∧ (2#8 : Byte) ≠ 1#8 ∧
      0 < 16 ∧ 15 < 16 ∧ 2 ^ 20 - 1 < 2 ^ 20 := by
  decide

/-- `HostResetKeepsRam`, `HostIsExcludedDuringExecute`. -/
theorem witness_host_excluded : (plain []).budget ≠ 0 ∧ (plain []).halted = false := by decide

end Sys2Proof.Tests
end

section
/-! SUPPORT. The decoder gives back the bytes it took and never runs short of them, and what a step answers at each opcode byte
under any setting: the statements of 00_scope.md. -/

namespace Sys2Proof

/-! ### The decoder gives back what it read (R91, R109) -/

/-- The `reg` field of a group-1 operation (R99). -/
def AluOp.code : AluOp → BitVec 3
  | .add => 0#3 | .or => 1#3 | .adc => 2#3 | .sbb => 3#3 | .and => 4#3 | .sub => 5#3 | .xor => 6#3 | .cmp => 7#3

theorem AluOp.code_ofCode (c : BitVec 3) : (AluOp.ofCode c).code = c := by revert c; decide

/-- The instructions a form makes are encoded as the opcode byte and the fields the form reads (R91). Where the form makes
them by a constructor this is an equation of functions, true by computation. -/
def Form.Encodes (op : Byte) : Form → Prop
  | .bare i => encode i = [op]
  | .imm8 mk => (fun v => encode (mk v)) = fun v => [op, v]
  | .imm16 mk => (fun v => encode (mk v)) = fun v => op :: leBytes v
  | .mrByte mk => (fun g e => encode (mk g e)) = fun g e => op :: encodeModRM g.code Reg8.code e
  | .mrWord mk => (fun g e => encode (mk g e)) = fun g e => op :: encodeModRM g.code Reg16.code e
  | .miByte mk => ∀ k e v, encode (mk k e v) = op :: (encodeModRM k.code Reg8.code e ++ [v])
  | .miWord mk => ∀ k e v, encode (mk k e v) = op :: (encodeModRM k.code Reg16.code e ++ leBytes v)
  | .miSext mk => ∀ k e v, encode (mk k e v) = op :: (encodeModRM k.code Reg16.code e ++ [v])

/-- The row of the group-1 opcodes, where the `reg` field chooses the constructor (R99). -/
theorem opcodeRow8_encodes (l : Fin 16) : (opcodeRow8[l]).Encodes (BitVec.ofNat 8 (0x80 + l)) := by
  fin_cases l
  · intro k e v; cases k <;> rfl
  · intro k e v; cases k <;> rfl
  · intro k e v; cases k <;> rfl
  · intro k e v; cases k <;> rfl
  all_goals rfl

theorem opcodeMap_encodes (h l : Fin 16) : (opcodeMap[h][l]).Encodes (BitVec.ofNat 8 (16 * h + l)) := by
  fin_cases h
  on_goal 9 => exact opcodeRow8_encodes l
  all_goals fin_cases l <;> rfl

theorem formOf_encodes (op : Byte) : (formOf op).Encodes op := by
  have h := op.isLt
  have e := opcodeMap_encodes ⟨op.toNat / 16, by omega⟩ ⟨op.toNat % 16, by omega⟩
  simpa [formOf, Nat.div_add_mod] using e

theorem map_eq_ok {ε α β : Type} {f : α → β} {x : Except ε α} {b : β} :
    x.map f = .ok b ↔ ∃ a, x = .ok a ∧ f a = b := by
  cases x <;> simp [Except.map]

theorem bind_eq_ok {ε α β : Type} {f : α → Except ε β} {x : Except ε α} {b : β} :
    x.bind f = .ok b ↔ ∃ a, x = .ok a ∧ f a = .ok b := by
  cases x <;> simp [Except.bind]

/-- The bytes a form takes, after its opcode byte, are the encoding of the instruction it makes. -/
theorem Form.encode_of_read {op : Byte} {f : Form} (hf : f.Encodes op) {bs rest : List Byte} {i : Instr}
    (h : f.read bs = .ok (i, rest)) : encode i ++ rest = op :: bs := by
  cases f <;> simp only [Form.read, map_eq_ok, bind_eq_ok, Prod.exists, Prod.mk.injEq, Except.ok.injEq] at h <;>
    simp only [Form.Encodes, funext_iff] at hf
  case bare => obtain ⟨rfl, rfl⟩ := h; simp [hf]
  case imm8 => obtain ⟨v, _, hv, rfl, rfl⟩ := h; simp [hf, takeByte_inv hv]
  case imm16 => obtain ⟨v, _, hv, rfl, rfl⟩ := h; simp [hf, takeWord_inv hv]
  case mrByte =>
    obtain ⟨g, e, _, hm, rfl, rfl⟩ := h
    simp [hf, Reg8.code_ofCode, (takeModRM_inv Reg8.code_ofCode hm).2]
  case mrWord =>
    obtain ⟨g, e, _, hm, rfl, rfl⟩ := h
    simp [hf, Reg16.code_ofCode, (takeModRM_inv Reg16.code_ofCode hm).2]
  case miByte =>
    obtain ⟨k, e, _, hm, v, _, hv, rfl, rfl⟩ := h
    simp [hf, AluOp.code_ofCode, takeByte_inv hv, (takeModRM_inv Reg8.code_ofCode hm).2]
  case miWord =>
    obtain ⟨k, e, _, hm, v, _, hv, rfl, rfl⟩ := h
    simp [hf, AluOp.code_ofCode, takeWord_inv hv, (takeModRM_inv Reg16.code_ofCode hm).2]
  case miSext =>
    obtain ⟨k, e, _, hm, v, _, hv, rfl, rfl⟩ := h
    simp [hf, AluOp.code_ofCode, takeByte_inv hv, (takeModRM_inv Reg16.code_ofCode hm).2]

/-- R109: the bytes a decoded instruction took are its encoding. -/
theorem encode_of_decode {op : Byte} {bs rest : List Byte} {i : Instr} (h : decode (op :: bs) = .ok (i, rest)) :
    encode i ++ rest = op :: bs :=
  Form.encode_of_read (formOf_encodes op) h

/-! ### Six bytes are enough (R90) -/

theorem takeByte_of_length {bs : List Byte} {n : Nat} (h : n + 1 ≤ bs.length) :
    ∃ v rest, takeByte bs = .ok (v, rest) ∧ n ≤ rest.length := by
  match bs, h with
  | v :: rest, h => exact ⟨v, rest, rfl, Nat.le_of_succ_le_succ h⟩

theorem takeWord_of_length {bs : List Byte} {n : Nat} (h : n + 2 ≤ bs.length) :
    ∃ v rest, takeWord bs = .ok (v, rest) ∧ n ≤ rest.length := by
  match bs, h with
  | lo :: hi :: rest, h => exact ⟨wordOf lo hi, rest, rfl, by simpa using h⟩

theorem takeMemAddr_of_length (mod : BitVec 2) (rm : BitVec 3) {bs : List Byte} {n : Nat} (h : n + 2 ≤ bs.length) :
    ∃ a rest, takeMemAddr mod rm bs = .ok (a, rest) ∧ n ≤ rest.length := by
  obtain ⟨d, _, hd, _⟩ := takeByte_of_length (n := n) (bs := bs) (by omega)
  obtain ⟨w, _, hw, _⟩ := takeWord_of_length h
  unfold takeMemAddr
  split_ifs
  · exact ⟨_, _, map_eq_ok.2 ⟨_, hw, rfl⟩, ‹_›⟩
  · exact ⟨_, bs, rfl, by omega⟩
  · exact ⟨_, _, map_eq_ok.2 ⟨_, hd, rfl⟩, ‹_›⟩
  · exact ⟨_, _, map_eq_ok.2 ⟨_, hw, rfl⟩, ‹_›⟩

theorem takeModRM_of_length {R : Type} (ofCode : BitVec 3 → R) {bs : List Byte} {n : Nat} (h : n + 3 ≤ bs.length) :
    ∃ g e rest, takeModRM ofCode bs = .ok (g, e, rest) ∧ n ≤ rest.length := by
  obtain ⟨b, bs', hb, hl⟩ := takeByte_of_length (n := n + 2) h
  obtain ⟨a, rest, ha, hr⟩ := takeMemAddr_of_length (modField b) (rmField b) hl
  by_cases hm : modField b = 3#2
  · exact ⟨_, _, bs', bind_eq_ok.2 ⟨_, hb, if_pos hm⟩, by omega⟩
  · exact ⟨_, _, rest, bind_eq_ok.2 ⟨_, hb, (if_neg hm).trans (map_eq_ok.2 ⟨_, ha, rfl⟩)⟩, hr⟩

theorem Form.read_of_length (f : Form) {bs : List Byte} (h : 5 ≤ bs.length) : ∃ i rest, f.read bs = .ok (i, rest) := by
  obtain ⟨v, _, hv, _⟩ := takeByte_of_length (n := 0) (bs := bs) (by omega)
  obtain ⟨w, _, hw, _⟩ := takeWord_of_length (n := 0) (bs := bs) (by omega)
  obtain ⟨_, _, r8, h8, hl8⟩ := takeModRM_of_length Reg8.ofCode (n := 2) h
  obtain ⟨_, _, r16, h16, hl16⟩ := takeModRM_of_length Reg16.ofCode (n := 2) h
  cases f with
  | bare i => exact ⟨i, bs, rfl⟩
  | imm8 mk => exact ⟨_, _, map_eq_ok.2 ⟨_, hv, rfl⟩⟩
  | imm16 mk => exact ⟨_, _, map_eq_ok.2 ⟨_, hw, rfl⟩⟩
  | mrByte mk => exact ⟨_, _, map_eq_ok.2 ⟨_, h8, rfl⟩⟩
  | mrWord mk => exact ⟨_, _, map_eq_ok.2 ⟨_, h16, rfl⟩⟩
  | miByte mk =>
    obtain ⟨_, _, hi, _⟩ := takeByte_of_length (n := 0) (bs := r8) (by omega)
    exact ⟨_, _, bind_eq_ok.2 ⟨_, h8, map_eq_ok.2 ⟨_, hi, rfl⟩⟩⟩
  | miWord mk =>
    obtain ⟨_, _, hi, _⟩ := takeWord_of_length (n := 0) (bs := r16) (by omega)
    exact ⟨_, _, bind_eq_ok.2 ⟨_, h16, map_eq_ok.2 ⟨_, hi, rfl⟩⟩⟩
  | miSext mk =>
    obtain ⟨_, _, hi, _⟩ := takeByte_of_length (n := 0) (bs := r16) (by omega)
    exact ⟨_, _, bind_eq_ok.2 ⟨_, h16, map_eq_ok.2 ⟨_, hi, rfl⟩⟩⟩

theorem decode_of_length {bs : List Byte} (h : 6 ≤ bs.length) : ∃ i rest, decode bs = .ok (i, rest) := by
  match bs, h with
  | op :: bs, h => exact (formOf op).read_of_length (Nat.le_of_succ_le_succ h)

end Sys2Proof

namespace Sys2Proof.Machine

open Sys2Proof.Spec

/-! ### The undefined and the uncovered opcodes (R103, R104) -/

theorem mem_undefSet_iff (op : Byte) : op ∈ Config.undefSet ↔ op ∈ undefinedOpcodes.map Prod.fst :=
  List.Perm.mem_iff (by decide)

theorem mem_haltSet_iff (op : Byte) : op ∈ Config.haltSet ↔ op = 0xF4#8 := List.mem_singleton

/-- The classes of R103, R104 and D4 share no opcode. -/
theorem uncovered_disjoint :
    ∀ op ∈ uncoveredOpcodes.map Prod.fst, op ∉ Config.haltSet ∧ op ∉ Config.undefSet :=
  List.forall_mem_map.2 (by decide)

/-- R103, R198: an undefined opcode is its one byte, counts against the budget, and changes nothing. -/
theorem undefined_entry : ∀ p ∈ undefinedOpcodes,
    formOf p.1 = .bare p.2 ∧ p.2.isPrefix = false ∧ exec p.2 = undefinedOp := by
  simp only [undefinedOpcodes, undefinedOpcodes1, undefinedOpcodes2, List.cons_append, List.nil_append,
    List.forall_mem_cons, List.not_mem_nil, false_imp_iff, implies_true, and_true]
  and_intros <;> rfl

/-- R104, R199: an uncovered opcode is its one byte, and the model refuses it. -/
theorem uncovered_entry : ∀ p ∈ uncoveredOpcodes, formOf p.1 = .bare p.2 ∧ exec p.2 = refuseUncovered p.1 := by
  simp only [uncoveredOpcodes, uncoveredOpcodes1, uncoveredOpcodes2, uncoveredOpcodes3, uncoveredOpcodes4,
    uncoveredOpcodes5, List.cons_append, List.nil_append, List.forall_mem_cons, List.not_mem_nil, false_imp_iff,
    implies_true, and_true]
  and_intros <;> rfl

/-- R199: no other instruction is refused. -/
theorem encode_of_exec_refused {i : Instr} {s : State} {r : Refusal} (h : exec i s = .refused r) :
    ∃ b ∈ uncoveredOpcodes.map Prod.fst, encode i = [b] := by
  cases i <;> cases h <;> exact ⟨_, by decide, rfl⟩

theorem exec_next_of_covered {op : Byte} {bs rest : List Byte} {i : Instr} (h : op ∉ uncoveredOpcodes.map Prod.fst)
    (hd : decode (op :: bs) = .ok (i, rest)) (s : State) : ∃ t, exec i s = .next t := by
  cases he : exec i s with
  | next t => exact ⟨t, rfl⟩
  | fault r => cases r
  | refused r =>
    obtain ⟨b, hb, hi⟩ := encode_of_exec_refused he
    have e := encode_of_decode hd
    simp only [hi, List.singleton_append, List.cons.injEq] at e
    exact absurd (e.1 ▸ hb) h

/-! ### The settings (R6) -/

/-- The entries no setting replaces, in the words of the statements and of the model. -/
theorem keepsEntry_iff {p : Params} {op : Byte} : KeepsEntry p op ↔ installedAt p op = none := by
  rw [installedAt_eq_none, KeepsEntry, mem_haltSet_iff, mem_undefSet_iff]

/-- An opcode byte is uncovered when a setting takes its handler away or its own entry, kept, is one of the 81 (R14, R199). -/
theorem isUncovered_iff {p : Params} {op : Byte} :
    IsUncovered p op ↔
      installedAt p op = some .uncovered ∨ installedAt p op = none ∧ op ∈ uncoveredOpcodes.map Prod.fst := by
  rw [installedAt_eq_uncovered, installedAt_eq_none, IsUncovered, ← mem_haltSet_iff, ← mem_undefSet_iff]
  have hd := uncovered_disjoint op
  tauto

/-! ### Steps at an entry of one byte -/

/-- A byte whose entry no setting replaces and takes no further bytes (R190). -/
theorem step_bare {s : State} {i : Instr} (hi : s.idle = false) (hp : installedAt s.params s.opcodeByte = none)
    (hf : formOf s.opcodeByte = .bare i) : step s = runInstr i 1 s := by
  have hd : decode s.fetchWindow = .ok (i, s.mem.fetch (s.getSeg .cs) (s.ip + 1#16) 5) := by
    rw [State.fetchWindow_eq, decode_cons, ← State.opcodeByte, hf]
    rfl
  rw [step_decoded hi hp hd, Memory.fetch_length]
  rfl

/-- R200, D4: a byte of `HALT_SET` halts, be it 0xF4 or not. -/
theorem step_of_mem_haltSet {s : State} (hi : s.idle = false) (h : s.opcodeByte ∈ s.params.haltSet) :
    step s = runInstalled .halt s := by
  by_cases hc : s.opcodeByte ∈ Config.haltSet
  · have hp : installedAt s.params s.opcodeByte = none := by simp [installedAt, h, hc]
    have hf : formOf s.opcodeByte = .bare .hlt := by rw [(mem_haltSet_iff _).1 hc]; rfl
    exact step_bare hi hp hf
  · exact step_installed hi (installedAt_eq_halt.2 ⟨h, hc⟩)

/-- R198, D3: any other byte of `UNDEF_SET` is the one-byte no-op, be it one of the 31 or not. -/
theorem step_of_mem_undefSet {s : State} (hi : s.idle = false) (hh : s.opcodeByte ∉ s.params.haltSet)
    (h : s.opcodeByte ∈ s.params.undefSet) : step s = runInstalled .undefined s := by
  by_cases hc : s.opcodeByte ∈ Config.undefSet
  · have hp : installedAt s.params s.opcodeByte = none := by simp [installedAt, hh, h, hc]
    obtain ⟨⟨b, i⟩, hm, hb⟩ := List.mem_map.1 ((mem_undefSet_iff _).1 hc)
    obtain ⟨hf, hn, he⟩ := undefined_entry _ hm
    rw [step_bare hi hp (hb ▸ hf)]
    simp [runInstr, runInstalled, installedOp, State.endIteration, hn, he]
  · exact step_installed hi (installedAt_eq_undefined.2 ⟨hh, h, hc⟩)

/-- R199: one of the 81, its entry kept, is refused with its byte, CS and IP. -/
theorem step_of_uncovered {s : State} (hi : s.idle = false) (hp : installedAt s.params s.opcodeByte = none)
    (h : s.opcodeByte ∈ uncoveredOpcodes.map Prod.fst) :
    step s = .refused (.uncoveredOpcode s.opcodeByte (s.getSeg .cs) s.ip) := by
  obtain ⟨⟨b, i⟩, hm, hb⟩ := List.mem_map.1 h
  obtain ⟨hf, he⟩ := uncovered_entry _ hm
  obtain rfl : b = s.opcodeByte := hb
  rw [step_bare hi hp hf, ← runInstalled_uncovered, runInstr, he]
  rfl

/-- Any other byte with its entry kept answers a next state. -/
theorem step_of_covered {s : State} (hi : s.idle = false) (hp : installedAt s.params s.opcodeByte = none)
    (h : s.opcodeByte ∉ uncoveredOpcodes.map Prod.fst) : ∃ t, step s = .next t := by
  obtain ⟨i, rest, hd⟩ := decode_of_length s.fetchWindow_length.ge
  obtain ⟨t, ht⟩ := exec_next_of_covered h hd (s.advanceIP (maxLength - rest.length))
  exact ⟨_, (step_decoded hi hp hd).trans (runInstr_next ht)⟩

/-! ### The obligations -/

/-- Settles O43: by the handler a setting installs at the byte, or else by whether the byte is one of the 81. -/
theorem stepStopsOnlyOnUncoveredOpcodes : Obligations.StepStopsOnlyOnUncoveredOpcodes := by
  intro s hi
  change ¬ IsUncovered s.params s.opcodeByte ∧ _ ∨ IsUncovered s.params s.opcodeByte ∧
    step s = .refused (.uncoveredOpcode s.opcodeByte _ _)
  rw [isUncovered_iff]
  cases hp : installedAt s.params s.opcodeByte with
  | some h =>
    rw [step_installed hi hp]
    cases h with
    | undefined => exact .inl ⟨by simp, _, runInstalled_undefined s⟩
    | halt => exact .inl ⟨by simp, _, runInstalled_halt s⟩
    | uncovered => exact .inr ⟨.inl rfl, runInstalled_uncovered s⟩
  | none =>
    by_cases h : s.opcodeByte ∈ uncoveredOpcodes.map Prod.fst
    · exact .inr ⟨.inr ⟨rfl, h⟩, step_of_uncovered hi hp h⟩
    · exact .inl ⟨by simpa using h, step_of_covered hi hp h⟩

/-- Settles O60: a byte of a set has the set's handler, whether a setting installs it or it is the byte's own entry. -/
theorem settingsInstallHaltAndNoOp : Obligations.SettingsInstallHaltAndNoOp := by
  refine ⟨fun s hb hh => ?_, fun op => keepsEntry_iff.2 (installedAt_default op)⟩
  have hi : s.idle = false := idle_eq_false.2 ⟨hb, hh⟩
  exact ⟨fun h => step_of_mem_haltSet hi h, fun hn h => step_of_mem_undefSet hi hn h⟩

end Sys2Proof.Machine
end

section
/-! SUPPORT. The meanings the arms of `exec` share, each named once, so that a fact about every instruction is one case for
each meaning; and what a step of the running loop runs. -/

namespace Sys2Proof.Machine

open Sys2Proof.Spec

/-! ### The meanings -/

/-- The meanings the arms of `exec` share (R191). -/
inductive Meaning : (State → Result) → Prop where
  | aluEbGb (k g e) : Meaning (aluEbGb k g e)
  | aluEvGv (k g e) : Meaning (aluEvGv k g e)
  | aluGbEb (k g e) : Meaning (aluGbEb k g e)
  | aluGvEv (k g e) : Meaning (aluGvEv k g e)
  | aluALIb (k imm) : Meaning (aluALIb k imm)
  | aluAXIv (k imm) : Meaning (aluAXIv k imm)
  | group1EbIb (k e imm) : Meaning (group1EbIb k e imm)
  | group1EvIv (k e imm) : Meaning (group1EvIv k e imm)
  | testOp8 (g e) : Meaning (testOp8 g e)
  | testOp16 (g e) : Meaning (testOp16 g e)
  | incReg (r) : Meaning (incReg r)
  | decReg (r) : Meaning (decReg r)
  | decimalOp (f) : Meaning (decimalOp f)
  | asciiOp (f) : Meaning (asciiOp f)
  | movReg8 (r imm) : Meaning (movReg8 r imm)
  | movReg16 (r imm) : Meaning (movReg16 r imm)
  | loadAL (ow) : Meaning (loadAL ow)
  | loadAX (ow) : Meaning (loadAX ow)
  | storeAL (ow) : Meaning (storeAL ow)
  | storeAX (ow) : Meaning (storeAX ow)
  | xchgOp8 (g e) : Meaning (xchgOp8 g e)
  | xchgOp16 (g e) : Meaning (xchgOp16 g e)
  | xchgAXReg (r) : Meaning (xchgAXReg r)
  | pushReg (r) : Meaning (pushReg r)
  | popReg (r) : Meaning (popReg r)
  | jumpIf (c d) : Meaning (jumpIf c d)
  | jumpRel (d) : Meaning (jumpRel d)
  | overrideSeg (r) : Meaning (overrideSeg r)
  | setRep (r) : Meaning (setRep r)
  | haltOp : Meaning haltOp
  | undefinedOp : Meaning undefinedOp
  | refuseUncovered (b) : Meaning (refuseUncovered b)

theorem exec_meaning (i : Instr) : Meaning (exec i) := by
  cases i
  case addEbGb | orEbGb | adcEbGb | sbbEbGb | andEbGb | subEbGb | xorEbGb | cmpEbGb => exact .aluEbGb _ _ _
  case addEvGv | orEvGv | adcEvGv | sbbEvGv | andEvGv | subEvGv | xorEvGv | cmpEvGv => exact .aluEvGv _ _ _
  case addGbEb | orGbEb | adcGbEb | sbbGbEb | andGbEb | subGbEb | xorGbEb | cmpGbEb => exact .aluGbEb _ _ _
  case addGvEv | orGvEv | adcGvEv | sbbGvEv | andGvEv | subGvEv | xorGvEv | cmpGvEv => exact .aluGvEv _ _ _
  case addALIb | orALIb | adcALIb | sbbALIb | andALIb | subALIb | xorALIb | cmpALIb => exact .aluALIb _ _
  case addAXIv | orAXIv | adcAXIv | sbbAXIv | andAXIv | subAXIv | xorAXIv | cmpAXIv => exact .aluAXIv _ _
  case addEbIb80 | orEbIb80 | adcEbIb80 | sbbEbIb80 | andEbIb80 | subEbIb80 | xorEbIb80 | cmpEbIb80 | addEbIb82 |
      orEbIb82 | adcEbIb82 | sbbEbIb82 | andEbIb82 | subEbIb82 | xorEbIb82 | cmpEbIb82 => exact .group1EbIb _ _ _
  case addEvIv81 | orEvIv81 | adcEvIv81 | sbbEvIv81 | andEvIv81 | subEvIv81 | xorEvIv81 | cmpEvIv81 | addEvIb83 |
      orEvIb83 | adcEvIb83 | sbbEvIb83 | andEvIb83 | subEvIb83 | xorEvIb83 | cmpEvIb83 => exact .group1EvIv _ _ _
  case testEbGb => exact .testOp8 _ _
  case testEvGv => exact .testOp16 _ _
  case incAX | incCX | incDX | incBX | incSP | incBP | incSI | incDI => exact .incReg _
  case decAX | decCX | decDX | decBX | decSP | decBP | decSI | decDI => exact .decReg _
  case daa | das => exact .decimalOp _
  case aaa | aas => exact .asciiOp _
  case movALIb | movCLIb | movDLIb | movBLIb | movAHIb | movCHIb | movDHIb | movBHIb => exact .movReg8 _ _
  case movAXIv | movCXIv | movDXIv | movBXIv | movSPIv | movBPIv | movSIIv | movDIIv => exact .movReg16 _ _
  case movALMem => exact .loadAL _
  case movAXMem => exact .loadAX _
  case movMemAL => exact .storeAL _
  case movMemAX => exact .storeAX _
  case xchgEbGb => exact .xchgOp8 _ _
  case xchgEvGv => exact .xchgOp16 _ _
  case xchgAXCX | xchgAXDX | xchgAXBX | xchgAXSP | xchgAXBP | xchgAXSI | xchgAXDI => exact .xchgAXReg _
  case pushAX | pushCX | pushDX | pushBX | pushSP | pushBP | pushSI | pushDI => exact .pushReg _
  case popAX | popCX | popDX | popBX | popSP | popBP | popSI | popDI => exact .popReg _
  case joRel8 | jnoRel8 | jbRel8 | jnbRel8 | jzRel8 | jnzRel8 | jbeRel8 | jaRel8 | jsRel8 | jnsRel8 | jpeRel8 |
      jpoRel8 | jlRel8 | jgeRel8 | jleRel8 | jgRel8 => exact .jumpIf _ _
  case jmpRel8 => exact .jumpRel _
  case prefixES | prefixCS | prefixSS | prefixDS => exact .overrideSeg _
  case repne | rep => exact .setRep _
  case hlt => exact .haltOp
  case nop | undef0F | undef60 | undef61 | undef62 | undef63 | undef64 | undef65 | undef66 | undef67 | undef68 |
      undef69 | undef6A | undef6B | undef6C | undef6D | undef6E | undef6F | undefC0 | undefC1 | undefC8 | undefC9 |
      undefD6 | escD8 | escD9 | escDA | escDB | escDC | escDD | escDE | escDF | undefF1 => exact .undefinedOp
  all_goals exact .refuseUncovered _

@[simp] theorem mapNext_next (f : State → State) (s : State) : mapNext f (.next s) = .next (f s) := rfl

@[simp] theorem mapNext_mapNext (f g : State → State) (r : Result) :
    mapNext f (mapNext g r) = mapNext (fun s => f (g s)) r := by
  cases r <;> rfl

/-- All a step of the running loop can be (R190); it never runs short of bytes. -/
theorem step_runs {s : State} (hi : s.idle = false) :
    (∃ h, installedAt s.params s.opcodeByte = some h ∧ step s = runInstalled h s) ∨
    (∃ i rest, installedAt s.params s.opcodeByte = none ∧ decode s.fetchWindow = .ok (i, rest) ∧
      step s = runInstr i (maxLength - rest.length) s) := by
  obtain ⟨i, rest, hd⟩ := decode_of_length s.fetchWindow_length.ge
  cases hp : installedAt s.params s.opcodeByte with
  | some h => exact .inl ⟨h, rfl, step_installed hi hp⟩
  | none => exact .inr ⟨i, rest, rfl, hd, step_decoded hi hp hd⟩

end Sys2Proof.Machine
end

section
/-! SUPPORT. No step reads stale decode state (R34 to R37, R167, R443): `forget` passes through every operation on the
state, the parse of an operand writes nothing `forget` keeps, and the segment of an operand is read from what it keeps. -/

namespace Sys2Proof.Machine

open Sys2Proof.Spec

section
variable (s : State)

@[simp] theorem forget_regs : (forget s).regs = s.regs := rfl
@[simp] theorem forget_flags : (forget s).flags = s.flags := rfl
@[simp] theorem forget_mem : (forget s).mem = s.mem := rfl
@[simp] theorem forget_params : (forget s).params = s.params := rfl
@[simp] theorem forget_draws : (forget s).draws = s.draws := rfl

@[simp] theorem forget_set8 (r : Reg8) (v : Byte) : forget (s.set8 r v) = (forget s).set8 r v := rfl
@[simp] theorem forget_set16 (r : Reg16) (v : Word) : forget (s.set16 r v) = (forget s).set16 r v := rfl
@[simp] theorem forget_write8 (seg off : Word) (v : Byte) :
    forget (s.write8 seg off v) = (forget s).write8 seg off v := rfl
@[simp] theorem forget_write16 (seg off v : Word) : forget (s.write16 seg off v) = (forget s).write16 seg off v := rfl
@[simp] theorem forget_jump (d : Byte) : forget (s.jump d) = (forget s).jump d := rfl
@[simp] theorem forget_advanceIP (n : Nat) : forget (s.advanceIP n) = (forget s).advanceIP n := rfl
@[simp] theorem forget_alu {w : Nat} (k : AluOp) (d x : BitVec w) :
    forget (s.alu k d x).2 = ((forget s).alu k d x).2 := rfl

@[simp] theorem forget_forget : forget (forget s) = forget s := by
  cases h : s.tr.segOverride <;> simp [forget, h]

/-- `seg` is read under a pending override only, and then it is kept (R164). -/
@[simp] theorem operandSeg_forget (r : SegReg) : (forget s).operandSeg r = s.operandSeg r := by
  cases h : s.tr.segOverride <;> simp [State.operandSeg, forget, h, State.getSeg]

/-- R162 writes `off` and `ea`, which are forgotten, and `seg`, which an override pending writes over with itself. -/
@[simp] theorem forget_setAddress (r : SegReg) (off : Word) :
    forget (s.setAddress (s.operandSeg r) off) = forget s := by
  cases h : s.tr.segOverride <;> simp [State.operandSeg, State.setAddress, forget, h]

@[simp] theorem forget_setModRM (m : BitVec 2) (g r : BitVec 3) : forget (s.setModRM m g r) = forget s := rfl

@[simp] theorem forget_parse8 (g : BitVec 3) (e : Operand Reg8) : forget (s.parse8 g e) = forget s := by
  cases e with
  | reg r => rfl
  | mem a => exact forget_setAddress (s.setModRM _ _ _) _ _

@[simp] theorem forget_parse16 (g : BitVec 3) (e : Operand Reg16) : forget (s.parse16 g e) = forget s := by
  cases e with
  | reg r => rfl
  | mem a => exact forget_setAddress (s.setModRM _ _ _) _ _

@[simp] theorem forget_directOffset (ow : Word) : forget (s.directOffset ow) = forget s := forget_setAddress _ _ _
end

/-- A meaning that commutes with forgetting does not read what is forgotten. -/
theorem mapNext_forget_of_commutes {m : State → Result} {s : State} (h : m (forget s) = mapNext forget (m s)) :
    mapNext forget (m (forget s)) = mapNext forget (m s) := by
  simp [h]

/-- Each meaning reads operands by what `forget` keeps; the ones that touch no decode state commute with it. -/
theorem Meaning.mapNext_forget {m : State → Result} (h : Meaning m) (s : State) :
    mapNext forget (m (forget s)) = mapNext forget (m s) := by
  cases h
  case aluEbGb k g e => cases e <;> simp [Machine.aluEbGb, apply_ite forget, State.get8_eq, State.read8, State.logicAf]
  case aluEvGv k g e =>
    cases e <;> simp [Machine.aluEvGv, apply_ite forget, State.get16_eq, State.read16, State.logicAf]
  case aluGbEb k g e => cases e <;> simp [Machine.aluGbEb, apply_ite forget, State.get8_eq, State.read8, State.logicAf]
  case aluGvEv k g e =>
    cases e <;> simp [Machine.aluGvEv, apply_ite forget, State.get16_eq, State.read16, State.logicAf]
  case aluALIb k imm => simp [Machine.aluALIb, apply_ite forget, State.get8_eq, State.logicAf]
  case aluAXIv k imm => simp [Machine.aluAXIv, apply_ite forget, State.get16_eq, State.logicAf]
  case group1EbIb k e imm =>
    cases e <;> simp [Machine.group1EbIb, apply_ite forget, State.get8_eq, State.read8, State.logicAf]
  case group1EvIv k e imm =>
    cases e <;> simp [Machine.group1EvIv, apply_ite forget, State.get16_eq, State.read16, State.logicAf]
  case testOp8 g e => cases e <;> simp [Machine.testOp8, State.get8_eq, State.read8]
  case testOp16 g e => cases e <;> simp [Machine.testOp16, State.get16_eq, State.read16]
  case xchgOp8 g e => cases e <;> simp [Machine.xchgOp8, State.get8_eq, State.read8]
  case xchgOp16 g e => cases e <;> simp [Machine.xchgOp16, State.get16_eq, State.read16]
  case loadAL ow => simp [Machine.loadAL, State.read8]
  case loadAX ow => simp [Machine.loadAX, State.read16]
  case storeAL ow => simp [Machine.storeAL, State.get8_eq]
  case storeAX ow => simp [Machine.storeAX, State.get16_eq]
  case jumpIf c d =>
    by_cases hc : condHolds c s.flags = true <;> simp [Machine.jumpIf, hc]
  case overrideSeg r => rfl
  case setRep r => exact congrArg Host.Outcome.next (forget_forget s)
  all_goals exact mapNext_forget_of_commutes rfl

theorem forget_endIteration (i : Instr) (s : State) :
    forget ((forget s).endIteration i) = forget (s.endIteration i) := by
  unfold State.endIteration
  split
  · exact forget_forget s
  · rfl

theorem runInstr_forget (i : Instr) (n : Nat) (s : State) :
    mapNext forget (runInstr i n (forget s)) = mapNext forget (runInstr i n s) := by
  have h := (exec_meaning i).mapNext_forget (s.advanceIP n)
  have e := congrArg (mapNext fun t => forget (t.endIteration i)) h
  simpa [runInstr, forget_endIteration] using e

theorem runInstalled_forget (h : Installed) (s : State) :
    mapNext forget (runInstalled h (forget s)) = mapNext forget (runInstalled h s) := by
  cases h <;> rfl

/-- Settles O48: the handler a step runs and its outcome are those of the state with the stale fields forgotten. -/
theorem staleDecodeStateIsNeverRead : Obligations.StaleDecodeStateIsNeverRead := by
  intro s
  cases hi : s.idle with
  | true => simp [step_idle hi, step_idle (s := forget s) hi]
  | false =>
    obtain ⟨h, hp, hs⟩ | ⟨i, rest, hp, hd, hs⟩ := step_runs hi
    · rw [hs, step_installed (s := forget s) hi hp, runInstalled_forget]
    · rw [hs, step_decoded (s := forget s) hi hp hd, runInstr_forget]

end Sys2Proof.Machine
end

section
/-! SUPPORT. No step reads TF, IF or DF (R31, R425): every meaning commutes with writing the three, hence a step, hence a
run. -/

namespace Sys2Proof.Machine

open Sys2Proof.Spec

section
variable (tf ifl df : Bool) (s : State)

@[simp] theorem condHolds_withControlFlags (c : Cond) :
    condHolds c (withControlFlags tf ifl df s).flags = condHolds c s.flags := by
  cases c <;> rfl

@[simp] theorem jump_withControlFlags (d : Byte) :
    (withControlFlags tf ifl df s).jump d = withControlFlags tf ifl df (s.jump d) := rfl

@[simp] theorem advanceIP_withControlFlags (n : Nat) :
    (withControlFlags tf ifl df s).advanceIP n = withControlFlags tf ifl df (s.advanceIP n) := rfl

/-- AAA and AAS leave TF, IF and DF under either setting (R316 to R318). -/
theorem asciiFlags_withControlFlags (b : Bool) :
    (withControlFlags tf ifl df s).asciiFlags b = { s.asciiFlags b with TF := tf, IF := ifl, DF := df } := by
  cases h : s.params.bcdSideFlags <;> simp [State.asciiFlags, withControlFlags, h]

/-- A meaning computes with the other flags and carries the three along. -/
theorem Meaning.withControlFlags {m : State → Result} (h : Meaning m) :
    m (withControlFlags tf ifl df s) = mapNext (withControlFlags tf ifl df) (m s) := by
  cases h
  case aluEbGb k g e => cases k <;> cases e <;> rfl
  case aluEvGv k g e => cases k <;> cases e <;> rfl
  case aluGbEb k g e => cases k <;> cases e <;> rfl
  case aluGvEv k g e => cases k <;> cases e <;> rfl
  case aluALIb k imm => cases k <;> rfl
  case aluAXIv k imm => cases k <;> rfl
  case group1EbIb k e imm => cases k <;> cases e <;> rfl
  case group1EvIv k e imm => cases k <;> cases e <;> rfl
  case testOp8 g e => cases e <;> rfl
  case testOp16 g e => cases e <;> rfl
  case xchgOp8 g e => cases e <;> rfl
  case xchgOp16 g e => cases e <;> rfl
  case asciiOp f =>
    simp only [Machine.asciiOp, asciiFlags_withControlFlags]
    rfl
  case jumpIf c d =>
    by_cases hc : condHolds c s.flags = true <;> simp [Machine.jumpIf, hc]
  all_goals rfl

theorem withControlFlags_endIteration (i : Instr) :
    (withControlFlags tf ifl df s).endIteration i = withControlFlags tf ifl df (s.endIteration i) := by
  unfold State.endIteration
  split <;> rfl

theorem runInstr_withControlFlags (i : Instr) (n : Nat) :
    runInstr i n (withControlFlags tf ifl df s) = mapNext (withControlFlags tf ifl df) (runInstr i n s) := by
  simp [runInstr, (exec_meaning i).withControlFlags, withControlFlags_endIteration]

theorem step_withControlFlags :
    step (withControlFlags tf ifl df s) = mapNext (withControlFlags tf ifl df) (step s) := by
  cases hi : s.idle with
  | true => simp [step_idle hi, step_idle (s := withControlFlags tf ifl df s) hi]
  | false =>
    obtain ⟨h, hp, hs⟩ | ⟨i, rest, hp, hd, hs⟩ := step_runs hi
    · rw [hs, step_installed (s := withControlFlags tf ifl df s) hi hp]
      cases h <;> rfl
    · rw [hs, step_decoded (s := withControlFlags tf ifl df s) hi hp hd, runInstr_withControlFlags]
end

/-- Settles O47: by induction on the number of steps, each commuting with the write of the three flags. -/
theorem controlFlagsHaveNoEffect : Obligations.ControlFlagsHaveNoEffect := by
  intro k s tf ifl df
  induction k generalizing s with
  | zero => rfl
  | succ k ih =>
    rw [runSteps_succ, runSteps_succ, step_withControlFlags]
    cases step s with
    | next t => exact ih t
    | fault r => rfl
    | refused r => rfl

end Sys2Proof.Machine
end

section
/-! SUPPORT. What every step keeps: segment registers, TF, IF, DF, the parameters and the form of memory; and where a step
leaves IP. -/

namespace Sys2Proof.Machine

open Sys2Proof.Spec

/-! ### What every step keeps -/

/-- What no step changes (R26, R31, R421), and the canonical form of memory, which every step keeps. -/
structure Frame (s t : State) : Prop where
  sregs : t.sregs = s.sregs
  TF : t.flags.TF = s.flags.TF
  IF : t.flags.IF = s.flags.IF
  DF : t.flags.DF = s.flags.DF
  params : t.params = s.params
  memory : s.mem.wf = true → t.mem.wf = true

/-- The fields an update must leave for it to have the frame. -/
theorem Frame.of_eq {s t : State} (hs : t.sregs = s.sregs) (hf : t.flags = s.flags) (hp : t.params = s.params)
    (hm : t.mem = s.mem) : Frame s t :=
  ⟨hs, hf ▸ rfl, hf ▸ rfl, hf ▸ rfl, hp, fun h => hm ▸ h⟩

theorem Plain.frame {s t : State} (p : Plain s t) : Frame s t :=
  ⟨p.sregs, p.TF, p.IF, p.DF, p.params, p.memory⟩

theorem Frame.of_advanceIP {s t : State} {n : Nat} (f : Frame (s.advanceIP n) t) : Frame s t :=
  ⟨f.sregs, f.TF, f.IF, f.DF, f.params, f.memory⟩

/-- What a step can do: hold an idle state (R426); run a handler and retire it (R190); latch a segment value (R193); or write
`rep` (R195). `n` is the number of bytes IP passes. -/
inductive Stepped (s : State) : State → Prop where
  | held (idle : s.idle = true) : Stepped s s
  | retired (u : State) (frame : Frame s u) : Stepped s u.retire
  | override (n : Nat) (r : SegReg) (running : s.idle = false) :
    Stepped s { s.advanceIP n with tr := { s.tr with seg := s.getSeg r, segOverride := true } }
  | repeats (n : Nat) (r : Rep) (running : s.idle = false) :
    Stepped s { s.advanceIP n with tr := { s.tr with rep := r } }

theorem runInstalled_stepped {s t : State} {h : Installed} (e : runInstalled h s = .next t) : Stepped s t := by
  cases h with
  | undefined => cases e; exact .retired (s.advanceIP 1) (.of_eq rfl rfl rfl rfl)
  | halt => cases e; exact .retired { s.advanceIP 1 with halted := true } (.of_eq rfl rfl rfl rfl)
  | uncovered => rw [runInstalled_uncovered] at e; cases e

theorem runInstr_stepped {s t : State} {i : Instr} {n : Nat} (hi : s.idle = false) (e : runInstr i n s = .next t) :
    Stepped s t := by
  cases exec_acts i (s.advanceIP n) with
  | plain u hu p np =>
    rw [runInstr_next hu, State.endIteration, np] at e
    cases e
    exact .retired u p.frame.of_advanceIP
  | jump u hu p np =>
    rw [runInstr_next hu, State.endIteration, np] at e
    cases e
    exact .retired u (p ▸ .of_eq rfl rfl rfl rfl)
  | override r hu p =>
    rw [runInstr_next hu, State.endIteration, p] at e
    cases e
    exact .override n r hi
  | repeats r hu p =>
    rw [runInstr_next hu, State.endIteration, p] at e
    cases e
    exact .repeats n r hi
  | halt h hu =>
    subst h
    cases e
    exact .retired { s.advanceIP n with halted := true } (.of_eq rfl rfl rfl rfl)
  | uncovered b h hu => rw [runInstr_refused hu] at e; cases e

theorem step_stepped {s t : State} (h : step s = .next t) : Stepped s t := by
  cases hi : s.idle with
  | true => rw [step_idle hi] at h; cases h; exact .held hi
  | false =>
    obtain ⟨_, _, hs⟩ | ⟨_, _, _, _, hs⟩ := step_runs hi
    · exact runInstalled_stepped (hs ▸ h)
    · exact runInstr_stepped hi (hs ▸ h)

theorem Stepped.frame {s t : State} (h : Stepped s t) : Frame s t := by
  cases h with
  | held => exact .of_eq rfl rfl rfl rfl
  | retired u f => exact ⟨f.sregs, f.TF, f.IF, f.DF, f.params, f.memory⟩
  | override => exact .of_eq rfl rfl rfl rfl
  | repeats => exact .of_eq rfl rfl rfl rfl

/-- With no override and no repeat pending, only the form of memory is asked. -/
theorem State.good_of_no_prefix {s : State} (hm : s.mem.wf = true) (ho : s.tr.segOverride = false)
    (hr : s.tr.rep = .none) : s.Good :=
  ⟨hm, fun _ => ⟨ho, hr⟩, fun h => by simp [ho] at h⟩

/-- Settles O51: by what a step can do. A retired step leaves nothing pending, and a latched override is a segment
register's value. -/
theorem stepKeepsGoodStates : Obligations.StepKeepsGoodStates := by
  intro s t hs h
  have st := step_stepped h
  have hm : t.mem.wf = true := st.frame.memory hs.memory
  cases st with
  | held => exact hs
  | retired u => exact State.good_of_no_prefix hm rfl rfl
  | override n r hi => exact ⟨hm, fun hi' => absurd (hi.symm.trans hi') (by decide), fun _ => ⟨r, rfl⟩⟩
  | repeats n r hi => exact ⟨hm, fun hi' => absurd (hi.symm.trans hi') (by decide), hs.override⟩

/-- Settles O45: the three flags, the segment registers and the parameters are in the frame of every step. -/
theorem noStepWritesSegmentsOrControlFlags : Obligations.NoStepWritesSegmentsOrControlFlags := by
  intro s t h
  have f := (step_stepped h).frame
  exact ⟨f.sregs, f.TF, f.IF, f.DF, f.params⟩

/-! ### IP -/

theorem isJump_of_isRelJump {i : Instr} (h : isRelJump i = true) : IsJump i := by
  cases i <;> cases h
  case jmpRel8 d => exact .inr ⟨d, rfl⟩
  case joRel8 d => exact .inl ⟨.jo, d, rfl⟩
  case jnoRel8 d => exact .inl ⟨.jno, d, rfl⟩
  case jbRel8 d => exact .inl ⟨.jb, d, rfl⟩
  case jnbRel8 d => exact .inl ⟨.jnb, d, rfl⟩
  case jzRel8 d => exact .inl ⟨.jz, d, rfl⟩
  case jnzRel8 d => exact .inl ⟨.jnz, d, rfl⟩
  case jbeRel8 d => exact .inl ⟨.jbe, d, rfl⟩
  case jaRel8 d => exact .inl ⟨.ja, d, rfl⟩
  case jsRel8 d => exact .inl ⟨.js, d, rfl⟩
  case jnsRel8 d => exact .inl ⟨.jns, d, rfl⟩
  case jpeRel8 d => exact .inl ⟨.jpe, d, rfl⟩
  case jpoRel8 d => exact .inl ⟨.jpo, d, rfl⟩
  case jlRel8 d => exact .inl ⟨.jl, d, rfl⟩
  case jgeRel8 d => exact .inl ⟨.jge, d, rfl⟩
  case jleRel8 d => exact .inl ⟨.jle, d, rfl⟩
  case jgRel8 d => exact .inl ⟨.jg, d, rfl⟩

@[simp] theorem State.endIteration_ip (s : State) (i : Instr) : (s.endIteration i).ip = s.ip := by
  unfold State.endIteration
  split <;> rfl

theorem exec_ip {i : Instr} {s t : State} (hj : ¬ IsJump i) (h : exec i s = .next t) : t.ip = s.ip := by
  cases exec_acts i s with
  | plain u hu p => cases hu.symm.trans h; exact p.ip
  | jump u hu p np nh j => exact absurd (isJump_of_isRelJump j) hj
  | override r hu => cases hu.symm.trans h; rfl
  | repeats r hu => cases hu.symm.trans h; rfl
  | halt hh hu => cases hu.symm.trans h; rfl
  | uncovered b hb hu => cases hu.symm.trans h

theorem runInstr_ip {i : Instr} {n : Nat} {s t : State} (hj : ¬ IsJump i) (h : runInstr i n s = .next t) :
    t.ip = s.ip + BitVec.ofNat 16 n := by
  cases he : exec i (s.advanceIP n) with
  | next u =>
    rw [runInstr_next he] at h
    cases h
    rw [State.endIteration_ip, exec_ip hj he, State.advanceIP_ip]
  | fault r => cases r
  | refused r => rw [runInstr_refused he] at h; cases h

theorem runInstalled_ip {h : Installed} {s t : State} (e : runInstalled h s = .next t) : t.ip = s.ip + 1#16 := by
  cases h with
  | undefined => cases e; rfl
  | halt => cases e; rfl
  | uncovered => rw [runInstalled_uncovered] at e; cases e

/-- Settles O46: no meaning but a relative jump writes IP, and a handler a setting installs takes one byte. -/
theorem onlyJumpsWriteIP : Obligations.OnlyJumpsWriteIP := by
  refine ⟨fun s t i rest hi hd hj hk h => ?_, fun s t hi hk h => ?_⟩
  · rw [step_decoded hi (keepsEntry_iff.1 hk) hd] at h
    exact runInstr_ip hj h
  · obtain ⟨_, _, hs⟩ | ⟨_, _, hp, _, _⟩ := step_runs hi
    · exact runInstalled_ip (hs ▸ h)
    · exact absurd (keepsEntry_iff.2 hp) hk

end Sys2Proof.Machine
end

section
/-! SUPPORT. The frame of the ALU instructions (R29, R72, R169, R219, R269): each form parses, computes and stores at one
place. -/

namespace Sys2Proof.Machine

open Sys2Proof.Spec

/-! ### The members of a family run the meaning of the family -/

theorem exec_opEbGb (k : AluOp) (g : Reg8) (e : Operand Reg8) : exec (opEbGb k g e) = aluEbGb k g e := by
  cases k <;> rfl
theorem exec_opEvGv (k : AluOp) (g : Reg16) (e : Operand Reg16) : exec (opEvGv k g e) = aluEvGv k g e := by
  cases k <;> rfl
theorem exec_opGbEb (k : AluOp) (g : Reg8) (e : Operand Reg8) : exec (opGbEb k g e) = aluGbEb k g e := by
  cases k <;> rfl
theorem exec_opGvEv (k : AluOp) (g : Reg16) (e : Operand Reg16) : exec (opGvEv k g e) = aluGvEv k g e := by
  cases k <;> rfl
theorem exec_opALIb (k : AluOp) (imm : Byte) : exec (opALIb k imm) = aluALIb k imm := by cases k <;> rfl
theorem exec_opAXIv (k : AluOp) (imm : Word) : exec (opAXIv k imm) = aluAXIv k imm := by cases k <;> rfl
theorem exec_group80 (k : AluOp) (e : Operand Reg8) (imm : Byte) : exec (group80 k e imm) = group1EbIb k e imm := by
  cases k <;> rfl
theorem exec_group81 (k : AluOp) (e : Operand Reg16) (imm : Word) : exec (group81 k e imm) = group1EvIv k e imm := by
  cases k <;> rfl
theorem exec_group82 (k : AluOp) (e : Operand Reg8) (imm : Byte) : exec (group82 k e imm) = group1EbIb k e imm := by
  cases k <;> rfl
theorem exec_group83 (k : AluOp) (e : Operand Reg16) (imm : Byte) :
    exec (group83 k e imm) = group1EvIv k e (sext16 imm) := by
  cases k <;> rfl

theorem stores_eq_writesBack (k : AluOp) : stores k = writesBack k := by cases k <;> rfl

/-! ### The frames -/

theorem Plain.keepsControl {s t : State} (p : Plain s t) : KeepsControl s t :=
  ⟨p.sregs, p.TF, p.IF, p.DF, p.segOverride, p.rep, p.budget, p.halted, p.params⟩

/-- A meaning whose outcomes are plain, as the lemmas `..._plain` say. -/
theorem keepsControl_of_plain {r : Result} {s t : State} (h : ∃ u, r = .next u ∧ Plain s u) (e : r = .next t) :
    KeepsControl s t := by
  obtain ⟨u, hu, p⟩ := h
  cases hu.symm.trans e
  exact p.keepsControl

section
variable {s u : State}

theorem keepsRegs_of_eq (hr : u.regs = s.regs) : KeepsRegs s u := fun q => by simp only [State.get16_eq, hr]

theorem keepsMemory_of_eq (hm : u.mem = s.mem) : KeepsMemory s u := fun a => by rw [hm]

theorem keepsRegsButByte_set8 (hr : u.regs = s.regs) (r : Reg8) (v : Byte) : KeepsRegsButByte r s (u.set8 r v) := by
  refine ⟨fun q hq => ?_, fun q hq => ?_⟩
  · rw [State.get8_eq, State.set8_regs, hr, Regs.get8_set8_other _ _ hq, State.get8_eq]
  · rw [State.get16_eq, State.set8_regs, hr, Regs.get16_set8_other _ _ hq, State.get16_eq]

theorem keepsRegsBut_set16 (hr : u.regs = s.regs) (r : Reg16) (v : Word) : KeepsRegsBut r s (u.set16 r v) :=
  fun q hq => by rw [State.get16_eq, State.set16_regs, hr, Regs.get16_set16_other _ _ hq, State.get16_eq]

variable (k : AluOp) (hr : u.regs = s.regs) (hm : u.mem = s.mem)
include hr hm

/-- The byte result goes to `G`, if it is stored (R139). -/
theorem keepsAllButGb_set8 (r : Reg8) (v : Byte) :
    KeepsAllButGb (stores k) s (if writesBack k then u.set8 r v else u) r := by
  rw [stores_eq_writesBack]
  cases writesBack k
  · exact ⟨keepsMemory_of_eq hm, keepsRegs_of_eq hr⟩
  · exact ⟨keepsMemory_of_eq hm, keepsRegsButByte_set8 hr r v⟩

/-- The word result goes to `G`, if it is stored (R139). -/
theorem keepsAllButGv_set16 (r : Reg16) (v : Word) :
    KeepsAllButGv (stores k) s (if writesBack k then u.set16 r v else u) r := by
  rw [stores_eq_writesBack]
  cases writesBack k
  · exact ⟨keepsMemory_of_eq hm, keepsRegs_of_eq hr⟩
  · exact ⟨keepsMemory_of_eq hm, keepsRegsBut_set16 hr r v⟩

/-- The byte result goes to `E` at the address parsed before (R169), if it is stored. -/
theorem keepsAllButEb_writeE8 {g : BitVec 3} {e : Operand Reg8} (ht : u.tr = (s.parse8 g e).tr) (v : Byte) :
    KeepsAllButEb (stores k) s (if writesBack k then u.writeE8 e v else u) e := by
  rw [stores_eq_writesBack]
  cases writesBack k with
  | false => exact ⟨keepsRegs_of_eq hr, keepsMemory_of_eq hm⟩
  | true =>
    cases e with
    | reg r => exact ⟨keepsRegsButByte_set8 hr r v, keepsMemory_of_eq hm⟩
    | mem a =>
      refine ⟨keepsRegs_of_eq hr, fun c hc => ?_⟩
      rw [if_pos rfl, State.writeE8_mem, State.write8_mem, ht, hm]
      exact Memory.read_write8_other _ hc

/-- The word result goes to `E` at the address parsed before (R169), if it is stored. -/
theorem keepsAllButEv_writeE16 {g : BitVec 3} {e : Operand Reg16} (ht : u.tr = (s.parse16 g e).tr) (v : Word) :
    KeepsAllButEv (stores k) s (if writesBack k then u.writeE16 e v else u) e := by
  rw [stores_eq_writesBack]
  cases writesBack k with
  | false => exact ⟨keepsRegs_of_eq hr, keepsMemory_of_eq hm⟩
  | true =>
    cases e with
    | reg r => exact ⟨keepsRegsBut_set16 hr r v, keepsMemory_of_eq hm⟩
    | mem a =>
      refine ⟨keepsRegs_of_eq hr, fun c hc hc' => ?_⟩
      rw [if_pos rfl, State.writeE16_mem, State.write16_mem, ht, hm]
      exact Memory.read_write16_other _ hc hc'

end

/-! ### The frame of each operand form -/

section
variable {k : AluOp} {s t : State}

theorem aluEbGb_frame {g : Reg8} {e : Operand Reg8} (h : aluEbGb k g e s = .next t) :
    KeepsControl s t ∧ KeepsAllButEb (stores k) s t e := by
  refine ⟨keepsControl_of_plain (aluEbGb_plain s k g e) h, ?_⟩
  cases h
  exact keepsAllButEb_writeE8 k (by simp) (by simp) (g := g.code) (by simp) _

theorem aluEvGv_frame {g : Reg16} {e : Operand Reg16} (h : aluEvGv k g e s = .next t) :
    KeepsControl s t ∧ KeepsAllButEv (stores k) s t e := by
  refine ⟨keepsControl_of_plain (aluEvGv_plain s k g e) h, ?_⟩
  cases h
  exact keepsAllButEv_writeE16 k (by simp) (by simp) (g := g.code) (by simp) _

theorem group1EbIb_frame {e : Operand Reg8} {imm : Byte} (h : group1EbIb k e imm s = .next t) :
    KeepsControl s t ∧ KeepsAllButEb (stores k) s t e := by
  refine ⟨keepsControl_of_plain (group1EbIb_plain s k e imm) h, ?_⟩
  cases h
  exact keepsAllButEb_writeE8 k (by simp) (by simp) (g := groupReg k) (by simp) _

theorem group1EvIv_frame {e : Operand Reg16} {imm : Word} (h : group1EvIv k e imm s = .next t) :
    KeepsControl s t ∧ KeepsAllButEv (stores k) s t e := by
  refine ⟨keepsControl_of_plain (group1EvIv_plain s k e imm) h, ?_⟩
  cases h
  exact keepsAllButEv_writeE16 k (by simp) (by simp) (g := groupReg k) (by simp) _

theorem aluGbEb_frame {g : Reg8} {e : Operand Reg8} (h : aluGbEb k g e s = .next t) :
    KeepsControl s t ∧ KeepsAllButGb (stores k) s t g := by
  refine ⟨keepsControl_of_plain (aluGbEb_plain s k g e) h, ?_⟩
  cases h
  exact keepsAllButGb_set8 k (by simp) (by simp) _ _

theorem aluGvEv_frame {g : Reg16} {e : Operand Reg16} (h : aluGvEv k g e s = .next t) :
    KeepsControl s t ∧ KeepsAllButGv (stores k) s t g := by
  refine ⟨keepsControl_of_plain (aluGvEv_plain s k g e) h, ?_⟩
  cases h
  exact keepsAllButGv_set16 k (by simp) (by simp) _ _

theorem aluALIb_frame {imm : Byte} (h : aluALIb k imm s = .next t) :
    KeepsControl s t ∧ KeepsAllButGb (stores k) s t .al := by
  refine ⟨keepsControl_of_plain (aluALIb_plain s k imm) h, ?_⟩
  cases h
  exact keepsAllButGb_set8 k (by simp) (by simp) _ _

theorem aluAXIv_frame {imm : Word} (h : aluAXIv k imm s = .next t) :
    KeepsControl s t ∧ KeepsAllButGv (stores k) s t .ax := by
  refine ⟨keepsControl_of_plain (aluAXIv_plain s k imm) h, ?_⟩
  cases h
  exact keepsAllButGv_set16 k (by simp) (by simp) _ _

end

/-- Settles O15: by the frames of the forms whose destination is `E`, which group 1 shares. -/
theorem aluWithDestinationEFrame : Obligations.AluWithDestinationEFrame := by
  refine ⟨fun k g e imm s t h => ?_, fun k g e imm b s t h => ?_⟩
  · rw [exec_opEbGb, exec_group80, exec_group82, or_self] at h
    exact h.elim aluEbGb_frame group1EbIb_frame
  · rw [exec_opEvGv, exec_group81, exec_group83] at h
    exact h.elim aluEvGv_frame (·.elim group1EvIv_frame group1EvIv_frame)

/-- Settles O16: by the frames of the forms whose destination is a register. -/
theorem aluWithRegisterDestinationFrame : Obligations.AluWithRegisterDestinationFrame :=
  ⟨fun k g e _ _ h => aluGbEb_frame (exec_opGbEb k g e ▸ h), fun k g e _ _ h => aluGvEv_frame (exec_opGvEv k g e ▸ h),
    fun k imm _ _ h => aluALIb_frame (exec_opALIb k imm ▸ h), fun k imm _ _ h => aluAXIv_frame (exec_opAXIv k imm ▸ h)⟩

end Sys2Proof.Machine
end

section
/-! SUPPORT. The register file and the FLAGS word (R20 to R28). -/

namespace Sys2Proof.Machine

open Sys2Proof.Spec

/-! ### Registers and flags -/

/-- Settles O7: by the laws of the register file. -/
theorem byteRegistersAreHalvesOfWordRegisters : Obligations.ByteRegistersAreHalvesOfWordRegisters := by
  refine ⟨fun s r q v => ?_, fun s r v q h => s.regs.get16_set8_other v h, fun s r q v => s.regs.get16_set16 r q v,
    fun s => ⟨?_, ?_, ?_, ?_⟩⟩
  · split
    next h => rw [h]; exact s.regs.get8_set8_same r v
    next h => exact s.regs.get8_set8_other v h
  all_goals exact (wordOf_low_high _).symm

/-- The sixteen bits of FLAGS, bit 0 first (R27, R28). -/
def Flags.bits (f : Flags) : List Bool :=
  [f.CF, true, f.PF, true, f.AF, true, f.ZF, f.SF, f.TF, f.IF, f.DF, f.OF, true, true, true, true]

theorem Flags.getBit_eq_bits (f : Flags) (k : Nat) : f.getBit k = f.bits[k]?.getD false := by
  by_cases h : k < 16
  · rw [Flags.getBit_eq f k h, List.getElem?_eq_getElem h]
    rfl
  · rw [List.getElem?_eq_none (by simpa [Flags.bits] using h)]
    exact BitVec.getLsbD_of_ge _ _ (by omega)

theorem isFlagBit_iff (k : Nat) : isFlagBit k = true ↔ k ∈ [0, 2, 4, 6, 7, 8, 9, 10, 11] := by
  simp [isFlagBit]

theorem isFlagBit_lt {k : Nat} (h : isFlagBit k = true) : k < 16 := by
  rw [isFlagBit_iff] at h
  fin_cases h <;> decide

/-- The reserved bits (R28). -/
theorem mem_reserved : ∀ k < 16, isFlagBit k = false → k ∈ [1, 3, 5, 12, 13, 14, 15] := by decide

theorem Flags.bits_setBit (f : Flags) {k : Nat} (b : Bool) (h : isFlagBit k = true) :
    (f.setBit k b).bits = f.bits.set k b := by
  rw [isFlagBit_iff] at h
  fin_cases h <;> rfl

/-- R28, D19: a write to a reserved bit is ignored. -/
theorem Flags.setBit_reserved (f : Flags) {k : Nat} (b : Bool) (h : isFlagBit k = false) : f.setBit k b = f := by
  unfold Flags.setBit
  split
  case h_10 => rfl
  all_goals cases h

/-- R28: a reserved bit reads 1. -/
theorem Flags.getBit_reserved (f : Flags) {k : Nat} (hk : k < 16) (h : isFlagBit k = false) : f.getBit k = true := by
  have hm := mem_reserved k hk h
  rw [Flags.getBit_eq f k hk]
  fin_cases hm <;> rfl

theorem Flags.getBit_setBit_same (f : Flags) {k : Nat} (b : Bool) (h : isFlagBit k = true) :
    (f.setBit k b).getBit k = b := by
  have hk : k < f.bits.length := isFlagBit_lt h
  simp [Flags.getBit_eq_bits, Flags.bits_setBit f b h, hk]

theorem Flags.getBit_setBit_other (f : Flags) {j k : Nat} (b : Bool) (h : j ≠ k) :
    (f.setBit k b).getBit j = f.getBit j := by
  cases hk : isFlagBit k with
  | false => rw [f.setBit_reserved b hk]
  | true => rw [Flags.getBit_eq_bits, f.bits_setBit b hk, List.getElem?_set_ne h.symm, Flags.getBit_eq_bits]

/-- Settles O10: a write to a defined bit replaces one entry of the list of bits, and any other write none. -/
theorem reservedFlagBitsReadOne : Obligations.ReservedFlagBitsReadOne := fun f _ b hk =>
  ⟨fun h => ⟨f.getBit_reserved hk h, f.setBit_reserved b h⟩, f.getBit_setBit_same b,
    fun _ h => f.getBit_setBit_other b h⟩

end Sys2Proof.Machine
end

section
/-! SUPPORT. Reset (R41) and the host port (R45 to R48, R440 to R443). -/

namespace Sys2Proof.Machine

open Sys2Proof.Spec

/-! ### Reset -/

/-- Settles O52: the default RAM lists nothing, and nothing is pending. -/
theorem resetIsGood : Obligations.ResetIsGood := State.good_of_no_prefix (by decide) rfl rfl

@[simp] theorem State.resetWith_get16 (p : Params) (seed : Word) (ram : Memory) (r : Reg16) :
    (State.resetWith p seed ram).get16 r = 0#16 := by
  cases r <;> rfl

@[simp] theorem State.resetWith_getSeg (p : Params) (seed : Word) (ram : Memory) (r : SegReg) :
    (State.resetWith p seed ram).getSeg r = 0#16 := by
  cases r <;> rfl

@[simp] theorem State.resetWith_get8 (p : Params) (seed : Word) (ram : Memory) (r : Reg8) :
    (State.resetWith p seed ram).get8 r = 0#8 := by
  show Regs.get8 ⟨0#16, 0#16, 0#16, 0#16, 0#16, 0#16, 0#16, 0#16⟩ r = 0#8
  cases r <;> decide

/-- The nine defined flags are clear and the reserved bits read 1 (R28, R41). -/
@[simp] theorem State.resetWith_flags_word (p : Params) (seed : Word) (ram : Memory) :
    (State.resetWith p seed ram).flags.word = 0xF02A#16 := by
  show Flags.word ⟨false, false, false, false, false, false, false, false, false⟩ = 0xF02A#16
  decide

/-- Settles O55: every element has its value by computation, whatever the settings, the seed and RAM. -/
theorem resetLeavesZeroRegisters : Obligations.ResetLeavesZeroRegisters := by
  refine ⟨?_, rfl⟩
  rintro p seed ram s rfl
  simp only [State.resetWith_get16, State.resetWith_get8, State.resetWith_getSeg, State.resetWith_flags_word,
    implies_true, true_and]
  exact ⟨rfl, rfl, rfl, rfl, rfl, rfl, rfl⟩

/-! ### The host port -/

/-- Settles O59: every move and read of the host asks whether the block is idle. -/
theorem hostIsExcludedDuringExecute : Obligations.HostIsExcludedDuringExecute := by
  intro s a o hb hh
  have hi : s.idle = false := idle_eq_false.2 ⟨hb, hh⟩
  simp [hostAct, hostRead, hostReadIP, hi]

theorem hostRead_of_idle {s : State} {o : Nat} (hi : s.idle = true) (ho : o < 1048616) :
    hostRead s o = some (imageByte s o) := by
  have : o < imageSize := ho
  simp [hostRead, hi, this]

theorem hostAct_execute {s : State} (hi : s.idle = true) (n : Nat) :
    hostAct (.execute n) s = .next { s with budget := n } := by
  simp [hostAct, hi]

theorem hostAct_write {s : State} (hi : s.idle = true) (o : Nat) (b : Byte) :
    hostAct (.write o b) s = imageWrite s o b := by
  simp [hostAct, hi]

theorem hostAct_reset {s : State} (hi : s.idle = true) (seed : Word) :
    hostAct (.reset seed) s = .next (s.hostReset seed) := by
  simp [hostAct, hi]

theorem idle_of_hostAct {s t : State} {a : HostAction} (h : hostAct a s = .next t) : s.idle = true := by
  cases hi : s.idle with
  | true => rfl
  | false => simp [hostAct, hi] at h

/-! ### Writing the image -/

/-- What a write of the host image can do, by the part of the image the offset is in (R46, R47). -/
inductive ImageWrite (s : State) (o : Nat) (b : Byte) : State → Prop where
  | reg (h : o < 16) : ImageWrite s o b (s.set16 (imageReg o) (withByte (s.get16 (imageReg o)) o b))
  | seg (h : 16 ≤ o ∧ o < 24) :
    ImageWrite s o b { s with sregs := s.sregs.set (imageSeg o) (withByte (s.getSeg (imageSeg o)) o b) }
  | reserved (h : 24 ≤ o ∧ o < 40) (hk : isFlagBit (o - 24) = false) : ImageWrite s o b s
  | flag (h : 24 ≤ o ∧ o < 40) (hk : isFlagBit (o - 24) = true) (hb : b = 0#8 ∨ b = 1#8) :
    ImageWrite s o b (s.setFlags (s.flags.setBit (o - 24) (b == 1#8)))
  | ram (h : 40 ≤ o ∧ o < imageSize) : ImageWrite s o b { s with mem := s.mem.write (o - 40) b }

theorem ImageWrite.of_next {s t : State} {o : Nat} {b : Byte} (h : imageWrite s o b = .next t) :
    ImageWrite s o b t := by
  unfold imageWrite at h
  split_ifs at h with h1 h2 h3 h4 h5 h6 <;> cases h
  · exact .reg h1
  · exact .seg ⟨by omega, h2⟩
  · exact .reserved ⟨by omega, h3⟩ (by simpa using h4)
  · exact .flag ⟨by omega, h3⟩ (by simpa using h4) h5
  · exact .ram ⟨by omega, h6⟩

/-- A write inside the image completes, unless a defined flag slot is given another byte than 0 or 1 (R47). -/
theorem imageWrite_completes {s : State} {o : Nat} {b : Byte} (ho : o < imageSize)
    (hf : 24 ≤ o → o < 40 → isFlagBit (o - 24) = true → b = 0#8 ∨ b = 1#8) : ∃ t, imageWrite s o b = .next t := by
  unfold imageWrite
  split_ifs with h1 h2 h3 h4 h5
  case neg => exact absurd (hf (by omega) h3 (by simpa using h4)) h5
  all_goals exact ⟨_, rfl⟩

/-- A write of the image leaves all that is not in the image (R46), and keeps the canonical form of RAM. -/
theorem ImageWrite.keeps {s t : State} {o : Nat} {b : Byte} (h : ImageWrite s o b t) :
    t.tr = s.tr ∧ t.idle = s.idle ∧ t.ip = s.ip ∧ (s.mem.wf = true → t.mem.wf = true) := by
  cases h with
  | reg => exact ⟨rfl, rfl, rfl, id⟩
  | seg => exact ⟨rfl, rfl, rfl, id⟩
  | reserved => exact ⟨rfl, rfl, rfl, id⟩
  | flag => exact ⟨rfl, rfl, rfl, id⟩
  | ram ho =>
    have ha : o - 40 < 2 ^ 20 := by unfold imageSize at ho; omega
    exact ⟨rfl, rfl, rfl, fun hm => Memory.wf_write b hm ha⟩

/-- Settles O53: the host acts on an idle block, where nothing is pending, and no move of it makes anything pending. -/
theorem hostActionsKeepGoodStates : Obligations.HostActionsKeepGoodStates := by
  intro a s t hs h
  have hi := idle_of_hostAct h
  obtain ⟨ho, hr⟩ := hs.clean hi
  cases a with
  | execute n =>
    rw [hostAct_execute hi] at h
    cases h
    exact State.good_of_no_prefix hs.memory ho hr
  | write o b =>
    rw [hostAct_write hi] at h
    obtain ⟨htr, _, _, hm⟩ := (ImageWrite.of_next h).keeps
    exact State.good_of_no_prefix (hm hs.memory) (htr ▸ ho) (htr ▸ hr)
  | reset seed =>
    rw [hostAct_reset hi] at h
    cases h
    exact State.good_of_no_prefix hs.memory rfl rfl

/-! ### Reading the image -/

theorem imageByte_reg (s : State) {o : Nat} (h : o < 16) : imageByte s o = byteOf (s.get16 (imageReg o)) o := by
  simp [imageByte, h]

theorem imageByte_seg (s : State) {o : Nat} (h : 16 ≤ o ∧ o < 24) :
    imageByte s o = byteOf (s.getSeg (imageSeg o)) o := by
  simp [imageByte, h, show ¬ o < 16 by omega]

theorem imageByte_flag (s : State) {o : Nat} (h : 24 ≤ o ∧ o < 40) :
    imageByte s o = flagByte (s.flags.getBit (o - 24)) := by
  simp [imageByte, h, show ¬ o < 16 by omega, show ¬ o < 24 by omega]

theorem imageByte_ram (s : State) {o : Nat} (h : 40 ≤ o) : imageByte s o = s.mem.read (o - 40) := by
  simp [imageByte, show ¬ o < 16 by omega, show ¬ o < 24 by omega, show ¬ o < 40 by omega]

/-- Two states read alike at an offset when they agree on what stands there (R46). -/
theorem imageByte_congr {s t : State} {o : Nat}
    (hr : o < 16 → byteOf (t.get16 (imageReg o)) o = byteOf (s.get16 (imageReg o)) o)
    (hs : 16 ≤ o ∧ o < 24 → byteOf (t.getSeg (imageSeg o)) o = byteOf (s.getSeg (imageSeg o)) o)
    (hf : 24 ≤ o ∧ o < 40 → t.flags.getBit (o - 24) = s.flags.getBit (o - 24))
    (hm : 40 ≤ o → t.mem.read (o - 40) = s.mem.read (o - 40)) : imageByte t o = imageByte s o := by
  obtain h | h | h | h : o < 16 ∨ (16 ≤ o ∧ o < 24) ∨ (24 ≤ o ∧ o < 40) ∨ 40 ≤ o := by omega
  · rw [imageByte_reg _ h, imageByte_reg _ h, hr h]
  · rw [imageByte_seg _ h, imageByte_seg _ h, hs h]
  · rw [imageByte_flag _ h, imageByte_flag _ h, hf h]
  · rw [imageByte_ram _ h, imageByte_ram _ h, hm h]

@[simp] theorem byteOf_withByte_same (v : Word) (i : Nat) (b : Byte) : byteOf (withByte v i b) i = b := by
  by_cases h : i % 2 = 0 <;> simp [byteOf, withByte, h]

theorem byteOf_withByte_other (v : Word) {i j : Nat} (b : Byte) (h : j % 2 ≠ i % 2) :
    byteOf (withByte v i b) j = byteOf v j := by
  by_cases hi : i % 2 = 0
  · simp [byteOf, withByte, hi, show ¬ j % 2 = 0 by omega]
  · simp [byteOf, withByte, hi, show j % 2 = 0 by omega]

@[simp] theorem SegRegs.get_set_same (g : SegRegs) (r : SegReg) (v : Word) : (g.set r v).get r = v := by
  cases r <;> rfl

theorem SegRegs.get_set_other (g : SegRegs) {r q : SegReg} (v : Word) (h : q ≠ r) : (g.set r v).get q = g.get q := by
  cases r <;> cases q <;> try rfl
  all_goals exact absurd rfl h

/-- Two offsets of one general register share its pair (R46). -/
theorem half_eq_of_imageReg_eq {o p : Nat} (ho : o < 16) (hp : p < 16) (h : imageReg p = imageReg o) :
    p / 2 = o / 2 := by
  have e := congrArg (fun r => (Reg16.code r).toNat) h
  simp only [imageReg, Reg16.code_ofCode, BitVec.toNat_ofNat] at e
  omega

theorem segOfCode_inj : ∀ c d : BitVec 2, segOfCode c = segOfCode d → c = d := by decide

theorem half_eq_of_imageSeg_eq {o p : Nat} (ho : 16 ≤ o ∧ o < 24) (hp : 16 ≤ p ∧ p < 24)
    (h : imageSeg p = imageSeg o) : p / 2 = o / 2 := by
  have e := congrArg BitVec.toNat (segOfCode_inj _ _ h)
  simp only [BitVec.toNat_ofNat] at e
  omega

theorem flagByte_eq_one {b : Byte} (h : b = 0#8 ∨ b = 1#8) : flagByte (b == 1#8) = b := by
  obtain rfl | rfl := h <;> rfl

theorem ImageWrite.imageByte_same {s t : State} {o : Nat} {b : Byte} (h : ImageWrite s o b t) :
    imageByte t o = if 24 ≤ o ∧ o < 40 ∧ isFlagBit (o - 24) = false then 1#8 else b := by
  cases h with
  | reg h =>
    rw [if_neg (by omega), imageByte_reg _ h, State.get16_eq, State.set16_regs, Regs.get16_set16_same,
      byteOf_withByte_same]
  | seg h =>
    rw [if_neg (by omega), imageByte_seg _ h, State.getSeg_eq, SegRegs.get_set_same, byteOf_withByte_same]
  | reserved h hk =>
    rw [if_pos ⟨h.1, h.2, hk⟩, imageByte_flag _ h, Flags.getBit_reserved _ (by omega) hk]
    rfl
  | flag h hk hb =>
    rw [if_neg (by simp [hk]), imageByte_flag _ h, State.setFlags_flags, Flags.getBit_setBit_same _ _ hk,
      flagByte_eq_one hb]
  | ram h => rw [if_neg (by omega), imageByte_ram _ h.1, Memory.read_write_same]

theorem ImageWrite.imageByte_other {s t : State} {o p : Nat} {b : Byte} (h : ImageWrite s o b t) (hp : p ≠ o) :
    imageByte t p = imageByte s p := by
  cases h with
  | reg h =>
    refine imageByte_congr (fun hr => ?_) (fun _ => rfl) (fun _ => rfl) (fun _ => rfl)
    by_cases he : imageReg p = imageReg o
    · have := half_eq_of_imageReg_eq h hr he
      rw [State.get16_eq, State.set16_regs, he, Regs.get16_set16_same, byteOf_withByte_other _ _ (by omega)]
    · rw [State.get16_eq, State.set16_regs, Regs.get16_set16_other _ _ he, State.get16_eq]
  | seg h =>
    refine imageByte_congr (fun _ => rfl) (fun hs => ?_) (fun _ => rfl) (fun _ => rfl)
    by_cases he : imageSeg p = imageSeg o
    · have := half_eq_of_imageSeg_eq h hs he
      rw [State.getSeg_eq, he, SegRegs.get_set_same, byteOf_withByte_other _ _ (by omega)]
    · rw [State.getSeg_eq, SegRegs.get_set_other _ _ he, State.getSeg_eq]
  | reserved => rfl
  | flag h =>
    refine imageByte_congr (fun _ => rfl) (fun _ => rfl) (fun hf => ?_) (fun _ => rfl)
    exact Flags.getBit_setBit_other _ _ (by omega)
  | ram h =>
    refine imageByte_congr (fun _ => rfl) (fun _ => rfl) (fun _ => rfl) (fun hm => ?_)
    exact Memory.read_write_other _ _ (by omega)

/-- The reserved flag slots (R28, R46), as the statement lists them. -/
theorem reservedSlot_iff {o : Nat} :
    24 ≤ o ∧ o < 40 ∧ isFlagBit (o - 24) = false ↔ o ∈ [25, 27, 29, 36, 37, 38, 39] := by
  constructor
  · rintro ⟨h, h', hk⟩
    have := mem_reserved (o - 24) (by omega) hk
    simp only [List.mem_cons, List.not_mem_nil, or_false] at this ⊢
    omega
  · intro h
    fin_cases h <;> decide

/-- U9: a defined flag slot takes no byte but 0 and 1. -/
theorem imageWrite_refused_of_flag {s : State} {k : Nat} {b : Byte} (hk : isFlagBit k = true) (h0 : b ≠ 0#8)
    (h1 : b ≠ 1#8) : imageWrite s (24 + k) b = .refused (.hostFlagByte k b) := by
  have hk' := isFlagBit_lt hk
  simp [imageWrite, hk, h0, h1, show ¬ 24 + k < 16 by omega, show 24 + k < 40 by omega]

/-- Settles O57: by the part of the image the written offset is in. -/
theorem hostImageReadsBack : Obligations.HostImageReadsBack := by
  refine ⟨fun s o b hi ho hf => ?_, fun s k b hi hk h0 h1 => ?_⟩
  · obtain ⟨t, ht⟩ : ∃ t, imageWrite s o b = .next t := imageWrite_completes ho fun h h' hk =>
      hf h h' fun hm => absurd (reservedSlot_iff.2 hm) (by simp [hk])
    have w := ImageWrite.of_next ht
    obtain ⟨_, hti, hip, _⟩ := w.keeps
    rw [hi] at hti
    refine ⟨t, (hostAct_write hi o b).trans ht, hip, hti, ?_, fun p hp hne => ?_⟩
    · rw [hostRead_of_idle hti ho, w.imageByte_same]
      simp only [reservedSlot_iff]
    · rw [hostRead_of_idle hti hp, hostRead_of_idle hi hp, w.imageByte_other hne]
  · rw [hostAct_write hi, imageWrite_refused_of_flag ((isFlagBit_iff k).2 hk) h0 h1]

/-- Settles O58: by the part of the image each offset is in. -/
theorem hostImageLayout : Obligations.HostImageLayout := by
  intro s hi
  refine ⟨fun r => ?_, ?_, fun k hk => ?_, fun a ha => ?_⟩
  · cases r <;> exact ⟨hostRead_of_idle hi (by decide), hostRead_of_idle hi (by decide)⟩
  · refine ⟨?_, ?_, ?_, ?_, ?_, ?_, ?_, ?_⟩ <;> exact hostRead_of_idle hi (by decide)
  · rw [hostRead_of_idle hi (by omega), imageByte_flag s (by omega), Nat.add_sub_cancel_left]
    rfl
  · rw [hostRead_of_idle hi (by omega), imageByte_ram s (by omega), Nat.add_sub_cancel_left]

end Sys2Proof.Machine
end

section
/-! SUPPORT. Logical addresses and the bytes of a word in memory (R60 to R65). -/

namespace Sys2Proof.Machine

/-! ### Bytes through logical addresses -/

/-- A byte store seen through any logical address: the two alias when they name one physical address (R63, R70). -/
theorem Memory.read8_write8 (m : Memory) (seg off seg' off' : Word) (v : Byte) :
    (m.write8 seg off v).read8 seg' off' =
      if (phys seg off).toNat = (phys seg' off').toNat then v else m.read8 seg' off' := by
  unfold Memory.read8
  split
  · next h => rw [← h]; exact m.read_write_same _ v
  · next h => exact m.read_write8_other (Ne.symm h)

/-- Settles O8: by the physical address as a number, and the read of a byte store through any logical address. -/
theorem logicalAddressesWrapAndAlias : Obligations.LogicalAddressesWrapAndAlias := by
  intro m seg off seg' off' v
  refine ⟨phys_toNat seg off, ?_⟩
  rw [Memory.read8_write8, phys_toNat, phys_toNat, Nat.mul_comm 16, Nat.mul_comm 16]

/-! ### Words -/

/-- The offset after the last one of a segment is the first one (D8). -/
theorem ofNat_succ_wrap (off : Word) : BitVec.ofNat 16 ((off.toNat + 1) % 2 ^ 16) = off + 1#16 := by
  apply BitVec.eq_of_toNat_eq
  simp [BitVec.toNat_add]

/-- Settles O9: by the laws of byte and word assembly and of the bytes of a stored word. -/
theorem wordsAreTwoBytesOfOneSegment : Obligations.WordsAreTwoBytesOfOneSegment := by
  intro m seg off v
  refine ⟨?_, m.read16_write16_same seg off v, ?_, ?_, fun _ hlow hhigh => m.read_write16_other hlow hhigh⟩
  · rw [Memory.read16, wordOf_toNat, Nat.add_comm, Nat.mul_comm]
  · rw [Memory.read8_write16_low, lowByte_toNat]
  · rw [ofNat_succ_wrap, Memory.read8_write16_high, highByte_toNat]

end Sys2Proof.Machine
end

section
/-! SUPPORT. Decoding and encoding are inverse (R90 to R110): the bytes a form takes and the instruction it makes of them,
said once, from which the round trips and the lengths follow; and the classes of the opcode bytes. -/

namespace Sys2Proof

open Sys2Proof.Spec

/-! ### What a form makes of its bytes (R91) -/

/-- The form makes the instruction of these bytes after the opcode byte, its `E` operand one that has an encoding. -/
inductive Form.Makes : Form → List Byte → Instr → Prop where
  | bare (i) : Makes (.bare i) [] i
  | imm8 {mk} (v) : Makes (.imm8 mk) [v] (mk v)
  | imm16 {mk} (v) : Makes (.imm16 mk) (leBytes v) (mk v)
  | mrByte {mk} (g e) (h : e.wf = true) : Makes (.mrByte mk) (encodeModRM (Reg8.code g) Reg8.code e) (mk g e)
  | mrWord {mk} (g e) (h : e.wf = true) : Makes (.mrWord mk) (encodeModRM (Reg16.code g) Reg16.code e) (mk g e)
  | miByte {mk} (k e v) (h : e.wf = true) :
      Makes (.miByte mk) (encodeModRM k Reg8.code e ++ [v]) (mk (AluOp.ofCode k) e v)
  | miWord {mk} (k e v) (h : e.wf = true) :
      Makes (.miWord mk) (encodeModRM k Reg16.code e ++ leBytes v) (mk (AluOp.ofCode k) e v)
  | miSext {mk} (k e v) (h : e.wf = true) :
      Makes (.miSext mk) (encodeModRM k Reg16.code e ++ [v]) (mk (AluOp.ofCode k) e v)

theorem Form.Makes.read {f : Form} {fields : List Byte} {i : Instr} (m : f.Makes fields i) (rest : List Byte) :
    f.read (fields ++ rest) = .ok (i, rest) := by
  cases m with
  | bare i => rfl
  | imm8 v => rfl
  | imm16 v => exact Form.read_imm16 _ v rest
  | mrByte g e h => exact Form.read_mrByte _ g e h rest
  | mrWord g e h => exact Form.read_mrWord _ g e h rest
  | miByte k e v h => exact Form.read_miByte _ k e v h rest
  | miWord k e v h => exact Form.read_miWord _ k e v h rest
  | miSext k e v h => exact Form.read_miSext _ k e v h rest

theorem Form.makes_of_read {f : Form} {bs rest : List Byte} {i : Instr} (h : f.read bs = .ok (i, rest)) :
    ∃ fields, f.Makes fields i ∧ fields ++ rest = bs := by
  cases f <;> simp only [Form.read, map_eq_ok, bind_eq_ok, Prod.exists, Prod.mk.injEq, Except.ok.injEq] at h
  case bare => obtain ⟨rfl, rfl⟩ := h; exact ⟨_, .bare _, rfl⟩
  case imm8 => obtain ⟨v, _, hv, rfl, rfl⟩ := h; exact ⟨_, .imm8 v, takeByte_inv hv⟩
  case imm16 => obtain ⟨v, _, hv, rfl, rfl⟩ := h; exact ⟨_, .imm16 v, takeWord_inv hv⟩
  case mrByte =>
    obtain ⟨g, e, _, hm, rfl, rfl⟩ := h
    obtain ⟨hw, hb⟩ := takeModRM_inv Reg8.code_ofCode hm
    exact ⟨_, .mrByte _ e hw, by rw [Reg8.code_ofCode, hb]⟩
  case mrWord =>
    obtain ⟨g, e, _, hm, rfl, rfl⟩ := h
    obtain ⟨hw, hb⟩ := takeModRM_inv Reg16.code_ofCode hm
    exact ⟨_, .mrWord _ e hw, by rw [Reg16.code_ofCode, hb]⟩
  case miByte =>
    obtain ⟨k, e, _, hm, v, _, hv, rfl, rfl⟩ := h
    obtain ⟨hw, hb⟩ := takeModRM_inv Reg8.code_ofCode hm
    exact ⟨_, .miByte k e v hw, by rw [List.append_assoc, List.singleton_append, takeByte_inv hv, hb]⟩
  case miWord =>
    obtain ⟨k, e, _, hm, v, _, hv, rfl, rfl⟩ := h
    obtain ⟨hw, hb⟩ := takeModRM_inv Reg16.code_ofCode hm
    exact ⟨_, .miWord k e v hw, by rw [List.append_assoc, takeWord_inv hv, hb]⟩
  case miSext =>
    obtain ⟨k, e, _, hm, v, _, hv, rfl, rfl⟩ := h
    obtain ⟨hw, hb⟩ := takeModRM_inv Reg16.code_ofCode hm
    exact ⟨_, .miSext k e v hw, by rw [List.append_assoc, List.singleton_append, takeByte_inv hv, hb]⟩

/-- R97 to R101: a well-formed instruction is what the form of its opcode byte makes of the rest of its encoding. -/
theorem encode_makes (i : Instr) (h : i.wf = true) :
    ∃ op fields, encode i = op :: fields ∧ (formOf op).Makes fields i := by
  cases i
  case addEbGb | orEbGb | adcEbGb | sbbEbGb | andEbGb | subEbGb | xorEbGb | cmpEbGb | addGbEb | orGbEb | adcGbEb |
      sbbGbEb | andGbEb | subGbEb | xorGbEb | cmpGbEb | testEbGb | xchgEbGb => exact ⟨_, _, rfl, .mrByte _ _ h⟩
  case addEvGv | orEvGv | adcEvGv | sbbEvGv | andEvGv | subEvGv | xorEvGv | cmpEvGv | addGvEv | orGvEv | adcGvEv |
      sbbGvEv | andGvEv | subGvEv | xorGvEv | cmpGvEv | testEvGv | xchgEvGv => exact ⟨_, _, rfl, .mrWord _ _ h⟩
  case addEbIb80 | orEbIb80 | adcEbIb80 | sbbEbIb80 | andEbIb80 | subEbIb80 | xorEbIb80 | cmpEbIb80 | addEbIb82 |
      orEbIb82 | adcEbIb82 | sbbEbIb82 | andEbIb82 | subEbIb82 | xorEbIb82 | cmpEbIb82 =>
    exact ⟨_, _, rfl, .miByte _ _ _ h⟩
  case addEvIv81 | orEvIv81 | adcEvIv81 | sbbEvIv81 | andEvIv81 | subEvIv81 | xorEvIv81 | cmpEvIv81 =>
    exact ⟨_, _, rfl, .miWord _ _ _ h⟩
  case addEvIb83 | orEvIb83 | adcEvIb83 | sbbEvIb83 | andEvIb83 | subEvIb83 | xorEvIb83 | cmpEvIb83 =>
    exact ⟨_, _, rfl, .miSext _ _ _ h⟩
  case addALIb | orALIb | adcALIb | sbbALIb | andALIb | subALIb | xorALIb | cmpALIb | movALIb | movCLIb | movDLIb |
      movBLIb | movAHIb | movCHIb | movDHIb | movBHIb | joRel8 | jnoRel8 | jbRel8 | jnbRel8 | jzRel8 | jnzRel8 | jbeRel8 |
      jaRel8 | jsRel8 | jnsRel8 | jpeRel8 | jpoRel8 | jlRel8 | jgeRel8 | jleRel8 | jgRel8 | jmpRel8 =>
    exact ⟨_, _, rfl, .imm8 _⟩
  case addAXIv | orAXIv | adcAXIv | sbbAXIv | andAXIv | subAXIv | xorAXIv | cmpAXIv | movAXIv | movCXIv | movDXIv |
      movBXIv | movSPIv | movBPIv | movSIIv | movDIIv | movALMem | movAXMem | movMemAL | movMemAX =>
    exact ⟨_, _, rfl, .imm16 _⟩
  all_goals exact ⟨_, _, rfl, .bare _⟩

/-- Settles O1: the form of its opcode byte makes the instruction of its encoding, and a form reads what it makes. -/
theorem decodeOfEncodeIsTheInstruction : Obligations.DecodeOfEncodeIsTheInstruction := by
  intro i rest h
  obtain ⟨op, fields, he, m⟩ := encode_makes i h
  rw [he, List.cons_append, decode_cons, m.read]

/-! ### What is decoded is well formed (R94) -/

/-- The instructions a form makes are well formed when their `E` operand is. Where the form makes them by a constructor
this is an equation of functions, true by computation. -/
def Form.KeepsWf : Form → Prop
  | .bare i => i.wf = true
  | .imm8 mk => (fun v => (mk v).wf) = fun _ => true
  | .imm16 mk => (fun v => (mk v).wf) = fun _ => true
  | .mrByte mk => (fun g e => (mk g e).wf) = fun _ e => e.wf
  | .mrWord mk => (fun g e => (mk g e).wf) = fun _ e => e.wf
  | .miByte mk => ∀ k e v, (mk k e v).wf = e.wf
  | .miWord mk => ∀ k e v, (mk k e v).wf = e.wf
  | .miSext mk => ∀ k e v, (mk k e v).wf = e.wf

/-- The row of the group-1 opcodes, where the `reg` field chooses the constructor (R99). -/
theorem opcodeRow8_keepsWf (l : Fin 16) : (opcodeRow8[l]).KeepsWf := by
  fin_cases l
  · intro k e v; cases k <;> rfl
  · intro k e v; cases k <;> rfl
  · intro k e v; cases k <;> rfl
  · intro k e v; cases k <;> rfl
  all_goals rfl

theorem opcodeMap_keepsWf (h l : Fin 16) : (opcodeMap[h][l]).KeepsWf := by
  fin_cases h
  on_goal 9 => exact opcodeRow8_keepsWf l
  all_goals fin_cases l <;> rfl

theorem formOf_keepsWf (op : Byte) : (formOf op).KeepsWf := by
  have h := op.isLt
  exact opcodeMap_keepsWf ⟨op.toNat / 16, by omega⟩ ⟨op.toNat % 16, by omega⟩

theorem Form.Makes.wf {f : Form} {fields : List Byte} {i : Instr} (m : f.Makes fields i) (hf : f.KeepsWf) :
    i.wf = true := by
  cases m with
  | bare i => exact hf
  | imm8 v => exact congrFun hf v
  | imm16 v => exact congrFun hf v
  | mrByte g e h => exact (congrFun₂ hf g e).trans h
  | mrWord g e h => exact (congrFun₂ hf g e).trans h
  | miByte k e v h => exact (hf _ e v).trans h
  | miWord k e v h => exact (hf _ e v).trans h
  | miSext k e v h => exact (hf _ e v).trans h

/-- Settles O2: the form of the opcode byte makes the instruction of the bytes it took. -/
theorem encodeOfDecodeIsTheBytes : Obligations.EncodeOfDecodeIsTheBytes := by
  intro bs rest i h
  cases bs with
  | nil => cases h
  | cons op bs =>
    obtain ⟨fields, m, -⟩ := Form.makes_of_read h
    exact ⟨m.wf (formOf_keepsWf op), encode_of_decode h⟩

/-! ### Lengths (R90, R102) -/

theorem Form.Makes.length_le {f : Form} {fields : List Byte} {i : Instr} (m : f.Makes fields i) : fields.length ≤ 5 := by
  cases m with
  | bare i => simp
  | imm8 v => simp
  | imm16 v => simp
  | mrByte g e h => have := (encodeModRM_length g.code Reg8.code e).2; omega
  | mrWord g e h => have := (encodeModRM_length g.code Reg16.code e).2; omega
  | miByte k e v h => have := (encodeModRM_length k Reg8.code e).2; simp; omega
  | miWord k e v h => have := (encodeModRM_length k Reg16.code e).2; simp; omega
  | miSext k e v h => have := (encodeModRM_length k Reg16.code e).2; simp; omega

/-- Settles O3: no form runs short of five bytes, and none takes more. -/
theorem sixBytesAlwaysDecode : Obligations.SixBytesAlwaysDecode := by
  intro bs hl
  obtain ⟨i, rest, hd⟩ := decode_of_length hl
  refine ⟨i, rest, hd, ?_⟩
  cases bs with
  | nil => simp at hl
  | cons op bs =>
    obtain ⟨fields, m, rfl⟩ := Form.makes_of_read hd
    have := m.length_le
    simp only [List.length_cons, List.length_append]
    omega

/-- The length of an instruction of a form whose ModR/M byte asks for `disp` bytes (R102). -/
def Form.length (disp : Nat) : Form → Nat
  | .bare _ => 1
  | .imm8 _ => 2
  | .imm16 _ => 3
  | .mrByte _ | .mrWord _ => 2 + disp
  | .miByte _ | .miSext _ => 3 + disp
  | .miWord _ => 4 + disp

theorem opcodeMap_length (modrm : Byte) (h l : Fin 16) :
    lengthByFormat (BitVec.ofNat 8 (16 * h + l)) modrm = (opcodeMap[h][l]).length (dispLength modrm) := by
  fin_cases h <;> fin_cases l <;> rfl

/-- The opcode ranges of R102 are the forms of R101. -/
theorem lengthByFormat_eq (op modrm : Byte) : lengthByFormat op modrm = (formOf op).length (dispLength modrm) := by
  have h := op.isLt
  have e := opcodeMap_length modrm ⟨op.toNat / 16, by omega⟩ ⟨op.toNat % 16, by omega⟩
  simpa [formOf, Nat.div_add_mod] using e

/-- R93 in the fields of the ModR/M byte. -/
theorem dispLength_eq : ∀ b : Byte, dispLength b =
    if modField b = 1#2 then 1 else if modField b = 2#2 then 2 else if modField b = 0#2 ∧ rmField b = 6#3 then 2 else 0 := by
  decide

theorem dispBytes_length {R : Type} (reg : BitVec 3) (code : R → BitVec 3) {e : Operand R} (h : e.wf = true) :
    e.dispBytes.length = dispLength (modrmByte e.modCode reg (e.rmCode code)) := by
  rw [dispLength_eq, modField_modrmByte, rmField_modrmByte]
  cases e with
  | reg r => rfl
  | mem a =>
    cases a with
    | base b =>
      have hb : b.code ≠ 6#3 := by rw [Ne, Base.code_eq_six]; rintro rfl; cases h
      simp [Operand.dispBytes, Operand.modCode, Operand.rmCode, MemAddr.dispBytes, MemAddr.modCode, MemAddr.rmCode, hb]
    | direct w => rfl
    | disp8 b d => rfl
    | disp16 b d => rfl

theorem encodeModRM_length_of_head {R : Type} {reg : BitVec 3} {code : R → BitVec 3} {e : Operand R} (h : e.wf = true)
    {tail bs : List Byte} {modrm : Byte} (hb : encodeModRM reg code e ++ tail = modrm :: bs) :
    (encodeModRM reg code e).length = 1 + dispLength modrm := by
  obtain ⟨rfl, -⟩ := List.cons.inj hb
  rw [encodeModRM, List.length_cons, dispBytes_length reg code h, Nat.add_comm]

/-- The fields a form takes have the length R102 gives it, when the ModR/M byte is the first of them. -/
theorem Form.Makes.length {f : Form} {fields rest bs : List Byte} {i : Instr} {modrm : Byte} (m : f.Makes fields i)
    (hb : fields ++ rest = modrm :: bs) : fields.length + 1 = f.length (dispLength modrm) := by
  cases m <;> simp only [Form.length, List.append_assoc] at hb ⊢
  case bare | imm8 | imm16 => rfl
  case mrByte h | mrWord h => rw [encodeModRM_length_of_head h hb]; omega
  case miByte h | miWord h | miSext h => simp [encodeModRM_length_of_head h hb]; omega

/-- Settles O4: each form takes the bytes R102 gives it, and the form is that of the opcode byte. -/
theorem lengthFollowsTheFormat : Obligations.LengthFollowsTheFormat := by
  intro op modrm bs rest i _ hd
  obtain ⟨fields, m, hb⟩ := Form.makes_of_read hd
  have hl := congrArg List.length hb
  rw [lengthByFormat_eq, ← m.length hb]
  simp only [List.length_append, List.length_cons] at hl
  omega

/-! ### Classes of opcode bytes (R103, R104, R106) -/

/-- An instruction of one byte is decoded at that byte only. -/
theorem opcode_eq_of_decode {op b : Byte} {bs rest : List Byte} {i : Instr} (hd : decode (op :: bs) = .ok (i, rest))
    (hi : encode i = [b]) : b = op := by
  have e := encode_of_decode hd
  rw [hi] at e
  exact (List.cons.inj e).1

theorem decode_bare {op : Byte} {bs rest : List Byte} {i j : Instr} (hd : decode (op :: bs) = .ok (i, rest))
    (hf : formOf op = .bare j) : i = j := by
  rw [decode_cons, hf] at hd
  cases hd
  rfl

section
variable {table : List (Byte × Instr)} (ht : ∀ p ∈ table, formOf p.1 = .bare p.2) {op : Byte} {bs rest : List Byte}
  {i : Instr} (hd : decode (op :: bs) = .ok (i, rest))
include ht hd

/-- A table of one-byte opcodes has the decoded instruction beside no byte but its own. -/
theorem opcode_eq_of_mem {b : Byte} (h : (b, i) ∈ table) : b = op :=
  opcode_eq_of_decode hd (by simpa [ht _ h, Form.Encodes] using formOf_encodes b)

/-- Such a table has the decoded instruction at its opcode byte exactly when it has the byte. -/
theorem mem_table_iff : (op, i) ∈ table ↔ op ∈ table.map Prod.fst := by
  refine ⟨fun h => List.mem_map.2 ⟨_, h, rfl⟩, fun h => ?_⟩
  obtain ⟨⟨_, j⟩, hj, rfl⟩ := List.mem_map.1 h
  rwa [decode_bare hd (ht _ hj)]

theorem exists_mem_table_iff : (∃ b, (b, i) ∈ table) ↔ op ∈ table.map Prod.fst := by
  rw [← mem_table_iff ht hd]
  exact ⟨fun ⟨b, h⟩ => opcode_eq_of_mem ht hd h ▸ h, fun h => ⟨op, h⟩⟩

end

theorem encode_of_isPrefix {i : Instr} (h : i.isPrefix = true) : ∃ b ∈ prefixBytes, encode i = [b] := by
  cases i <;> cases h <;> exact ⟨_, by decide, rfl⟩

theorem isPrefix_entry : ∀ op ∈ prefixBytes, ∃ j, formOf op = .bare j ∧ j.isPrefix = true := by
  simp only [prefixBytes, List.forall_mem_cons, List.not_mem_nil, false_imp_iff, implies_true, and_true]
  and_intros <;> exact ⟨_, rfl, rfl⟩

/-- R106: the instructions that set transient state are those of the six bytes. -/
theorem isPrefix_iff {op : Byte} {bs rest : List Byte} {i : Instr} (hd : decode (op :: bs) = .ok (i, rest)) :
    i.isPrefix = true ↔ op ∈ prefixBytes := by
  refine ⟨fun h => ?_, fun h => ?_⟩
  · obtain ⟨b, hb, hi⟩ := encode_of_isPrefix h
    exact opcode_eq_of_decode hd hi ▸ hb
  · obtain ⟨j, hf, hj⟩ := isPrefix_entry op h
    exact decode_bare hd hf ▸ hj

end Sys2Proof

namespace Sys2Proof.Machine

open Sys2Proof.Spec

/-- Settles O5: a byte of a class opens a one-byte instruction of the class, and that instruction is decoded at no other. -/
theorem opcodeByteDecidesTheClass : Obligations.OpcodeByteDecidesTheClass := by
  intro op bs rest i hd
  have hn : ∀ p ∈ undefinedOpcodes, formOf p.1 = .bare p.2 := fun p hp => (undefined_entry p hp).1
  have hc : ∀ p ∈ uncoveredOpcodes, formOf p.1 = .bare p.2 := fun p hp => (uncovered_entry p hp).1
  exact ⟨isPrefix_iff hd, (exists_mem_table_iff hn hd).trans (mem_undefSet_iff op).symm, exists_mem_table_iff hc hd,
    mem_table_iff hn hd, mem_table_iff hc hd⟩

/-- Settles O6, by decoding each word. -/
theorem specWordsDecode : Obligations.SpecWordsDecode :=
  ⟨rfl, rfl, rfl, rfl, rfl, rfl, rfl, rfl, rfl, rfl, rfl, rfl⟩

/-- Settles O37: each of the 31 has the meaning that holds the state. -/
theorem undefinedOpcodesAreNoOps : Obligations.UndefinedOpcodesAreNoOps := by
  intro b i s h
  obtain ⟨-, -, he⟩ := undefined_entry _ h
  rw [he, undefinedOp]

/-- Settles O39: each of the 81 has the meaning that refuses its byte. -/
theorem uncoveredOpcodesAreRefused : Obligations.UncoveredOpcodesAreRefused := by
  intro b i s h
  obtain ⟨-, he⟩ := uncovered_entry _ h
  rw [he, refuseUncovered_eq]

end Sys2Proof.Machine
end

section
/-! SUPPORT. The exchange with AX (R343), and group 1 (R99, R269): what the kernels compute is what the statements say of it in
integer arithmetic, and the `E` operand holds the result. -/

namespace Sys2Proof.Machine

open Sys2Proof.Spec

/-! ### XCHG AX,r16 -/

theorem exec_xchgWithAX (r : Reg16) (s : State) : exec (xchgWithAX r) s = xchgAXReg r s := by
  cases r <;> rfl

/-- The exchange with AX, as registers: both values are read before either is written. -/
theorem xchgAXReg_get16 {r : Reg16} {s t : State} (h : xchgAXReg r s = .next t) (q : Reg16) :
    t.get16 q = if q = r then s.get16 .ax else if q = .ax then s.get16 r else s.get16 q := by
  cases h
  simp only [State.get16_eq, State.set16_regs, Regs.get16_set16]

/-- Settles O30: by the registers after the exchange. -/
theorem exchangeWithAXCompletes : Obligations.ExchangeWithAXCompletes := by
  refine ⟨fun r s => ?_, fun _ => rfl⟩
  obtain ⟨t, h, p⟩ := xchgAXReg_plain s r
  have hq := xchgAXReg_get16 h
  refine ⟨t, (exec_xchgWithAX r s).trans h, ?_, ?_, fun q ha hr => ?_, ?_, p.keepsControl, ?_, p.ip, ?_⟩
  · rw [hq, if_pos rfl]
    split_ifs with he
    · rw [he]
    · rfl
  · rw [hq, if_pos rfl]
  · rw [hq, if_neg hr, if_neg ha]
  all_goals cases h
  · exact rfl
  · exact fun _ => rfl
  · exact rfl

/-! ### The kernels (R131 to R140) -/

section
variable {w : Nat} (f : Flags) (d x : BitVec w) (c : Bool)

theorem addK_effect (h : 4 < w) : AddEffect d x c (addK d x c).1 (f.setArith (addK d x c).2) :=
  ⟨addK_toNat d x c, addK_CF d x c, addK_AF d x c h, addK_OF d x c (by omega), zeroFlag_iff _, signFlag_iff _,
    parityFlag_iff _⟩

theorem subK_effect (h : 4 < w) : SubEffect d x c (subK d x c).1 (f.setArith (subK d x c).2) :=
  ⟨subK_toNat d x c, subK_CF d x c, subK_AF d x c h, subK_OF d x c (by omega), zeroFlag_iff _, signFlag_iff _,
    parityFlag_iff _⟩

theorem logicK_effect {p : Params} {af : Bool} (haf : p.logicAf = .zero → af = false) :
    LogicEffect p d (f.setArith (logicK d af).2) :=
  ⟨rfl, rfl, haf, zeroFlag_iff _, signFlag_iff _, parityFlag_iff _⟩

theorem aluK_effect {p : Params} {af : Bool} (k : AluOp) (h : 4 < w) (haf : p.logicAf = .zero → af = false) :
    AluEffect p k d x c (aluK k d x c af).1 (f.setArith (aluK k d x c af).2) := by
  cases k with
  | add => exact addK_effect f d x false h
  | or => exact ⟨fun i => BitVec.getLsbD_or, logicK_effect f _ haf⟩
  | adc => exact addK_effect f d x c h
  | sbb => exact subK_effect f d x c h
  | and => exact ⟨fun i => BitVec.getLsbD_and, logicK_effect f _ haf⟩
  | sub => exact subK_effect f d x false h
  | xor => exact ⟨fun i => BitVec.getLsbD_xor, logicK_effect f _ haf⟩
  | cmp => exact subK_effect f d x false h

end

/-- `AluOp` on the state computes the result and writes the flags R139 gives, under the state's settings. -/
theorem State.alu_effect {w : Nat} (s : State) (k : AluOp) (d x : BitVec w) (h : 4 < w) :
    AluEffect s.params k d x s.flags.CF (s.alu k d x).1 (s.alu k d x).2.flags :=
  aluK_effect s.flags d x s.flags.CF k h s.logicAf_zero

/-! ### The `E` operand as destination (R168, R169) -/

theorem readE8_parse8 (s : State) (g : BitVec 3) (e : Operand Reg8) : (s.parse8 g e).readE8 e = valueEb s e := by
  cases e <;> rfl

theorem readE16_parse16 (s : State) (g : BitVec 3) (e : Operand Reg16) : (s.parse16 g e).readE16 e = valueEv s e := by
  cases e <;> rfl

section
variable {s u : State} (k : AluOp) (hr : u.regs = s.regs) (hm : u.mem = s.mem)
include hr hm

/-- The byte at the place of `E` is the result, if it is stored. -/
theorem holdsEb_writeE8 {g : BitVec 3} {e : Operand Reg8} (ht : u.tr = (s.parse8 g e).tr) (v : Byte) :
    HoldsEb s (if writesBack k then u.writeE8 e v else u) (if stores k then v else valueEb s e) e := by
  rw [stores_eq_writesBack]
  cases writesBack k with
  | false =>
    cases e with
    | reg r => exact congrArg (·.get8 r) hr
    | mem a => exact congrArg (·.read8 (memSeg s a) (memOff s a)) hm
  | true =>
    cases e with
    | reg r => exact u.regs.get8_set8_same r v
    | mem a =>
      rw [if_pos rfl, if_pos rfl, State.writeE8_mem, ht]
      exact u.mem.read8_write8_same _ _ v

/-- The word at the place of `E` is the result, if it is stored. -/
theorem holdsEv_writeE16 {g : BitVec 3} {e : Operand Reg16} (ht : u.tr = (s.parse16 g e).tr) (v : Word) :
    HoldsEv s (if writesBack k then u.writeE16 e v else u) (if stores k then v else valueEv s e) e := by
  rw [stores_eq_writesBack]
  cases writesBack k with
  | false =>
    cases e with
    | reg r => exact congrArg (·.get16 r) hr
    | mem a => exact congrArg (·.read16 (memSeg s a) (memOff s a)) hm
  | true =>
    cases e with
    | reg r => exact u.regs.get16_set16_same r v
    | mem a =>
      rw [if_pos rfl, if_pos rfl, State.writeE16_mem, ht]
      exact u.mem.read16_write16_same _ _ v

end

/-- R269 at width 8: the operation on the old value of `E` and the immediate, and its result at the place of `E`. -/
theorem group1EbIb_effect (k : AluOp) (e : Operand Reg8) (imm : Byte) (s : State) : ∃ t r,
    group1EbIb k e imm s = .next t ∧ AluEffect s.params k (valueEb s e) imm s.flags.CF r t.flags ∧
      HoldsEb s t (if stores k then r else valueEb s e) e := by
  refine ⟨_, _, rfl, ?_, holdsEb_writeE8 k (by simp) (by simp) (g := groupReg k) (by simp) _⟩
  have h := (s.parse8 (groupReg k) e).alu_effect k (valueEb s e) imm (by decide)
  rw [readE8_parse8, apply_ite State.flags, State.writeE8_flags, ite_self]
  rwa [State.parse8_params, State.parse8_flags] at h

/-- R269 at width 16. -/
theorem group1EvIv_effect (k : AluOp) (e : Operand Reg16) (imm : Word) (s : State) : ∃ t r,
    group1EvIv k e imm s = .next t ∧ AluEffect s.params k (valueEv s e) imm s.flags.CF r t.flags ∧
      HoldsEv s t (if stores k then r else valueEv s e) e := by
  refine ⟨_, _, rfl, ?_, holdsEv_writeE16 k (by simp) (by simp) (g := groupReg k) (by simp) _⟩
  have h := (s.parse16 (groupReg k) e).alu_effect k (valueEv s e) imm (by decide)
  rw [readE16_parse16, apply_ite State.flags, State.writeE16_flags, ite_self]
  rwa [State.parse16_params, State.parse16_flags] at h

/-- Settles O14: by the two widths of R269; 0x82 has the meaning of 0x80, and 0x83 that of 0x81 on the extended byte. -/
theorem groupOneCompletes : Obligations.GroupOneCompletes := by
  refine ⟨fun k e imm s => ?_, fun k e imm s => ?_, fun k e imm s => ?_⟩
  · obtain ⟨t, r, ht, h⟩ := group1EbIb_effect k e imm s
    exact ⟨t, r, (congrFun (exec_group80 k e imm) s).trans ht, (congrFun (exec_group82 k e imm) s).trans ht, h⟩
  · rw [exec_group81]
    exact group1EvIv_effect k e imm s
  · rw [exec_group83]
    exact group1EvIv_effect k e (sext16 imm) s

end Sys2Proof.Machine
end

section
/-! SUPPORT. The ALU flag engine (40_alu_flag_engine.md): the operand forms of R97 and TEST complete with the effect of R139, a
comparison decides the conditions of R378, and INC and DEC write every arithmetic flag but CF (R141). -/

namespace Sys2Proof.Machine

open Sys2Proof.Spec

/-! ### `AluOp` after a parse (R139, R160) -/

section
variable (s : State) (g : BitVec 3)

@[simp] theorem State.parse8_get8 (e : Operand Reg8) (r : Reg8) : (s.parse8 g e).get8 r = s.get8 r := by
  rw [State.get8_eq, State.parse8_regs, State.get8_eq]

@[simp] theorem State.parse16_get16 (e : Operand Reg16) (r : Reg16) : (s.parse16 g e).get16 r = s.get16 r := by
  rw [State.get16_eq, State.parse16_regs, State.get16_eq]

variable {w : Nat} (k : AluOp) (d x : BitVec w) (h : 4 < w)
include h

/-- A parse leaves the settings and the carry that `AluOp` reads. -/
theorem alu_parse8_effect (e : Operand Reg8) :
    AluEffect s.params k d x s.flags.CF ((s.parse8 g e).alu k d x).1 ((s.parse8 g e).alu k d x).2.flags := by
  have he := (s.parse8 g e).alu_effect k d x h
  rwa [State.parse8_params, State.parse8_flags] at he

theorem alu_parse16_effect (e : Operand Reg16) :
    AluEffect s.params k d x s.flags.CF ((s.parse16 g e).alu k d x).1 ((s.parse16 g e).alu k d x).2.flags := by
  have he := (s.parse16 g e).alu_effect k d x h
  rwa [State.parse16_params, State.parse16_flags] at he

end

/-! ### The operand forms (R139, R219) -/

section
variable {s u : State} (k : AluOp)

/-- The byte register `G` holds the result, if it is stored. -/
theorem get8_set8_writesBack (hr : u.regs = s.regs) (r : Reg8) (v : Byte) :
    (if writesBack k then u.set8 r v else u).get8 r = if stores k then v else s.get8 r := by
  rw [stores_eq_writesBack]
  cases writesBack k with
  | false => exact congrArg (·.get8 r) hr
  | true => exact u.regs.get8_set8_same r v

/-- The word register `G` holds the result, if it is stored. -/
theorem get16_set16_writesBack (hr : u.regs = s.regs) (r : Reg16) (v : Word) :
    (if writesBack k then u.set16 r v else u).get16 r = if stores k then v else s.get16 r := by
  rw [stores_eq_writesBack]
  cases writesBack k with
  | false => exact congrArg (·.get16 r) hr
  | true => exact u.regs.get16_set16_same r v

end

section
variable (k : AluOp) (s : State)

theorem aluEbGb_effect (g : Reg8) (e : Operand Reg8) : ∃ t r,
    aluEbGb k g e s = .next t ∧ AluEffect s.params k (valueEb s e) (s.get8 g) s.flags.CF r t.flags ∧
      HoldsEb s t (if stores k then r else valueEb s e) e := by
  refine ⟨_, _, rfl, ?_, holdsEb_writeE8 k (by simp) (by simp) (g := g.code) (by simp) _⟩
  rw [readE8_parse8, apply_ite State.flags, State.writeE8_flags, ite_self, State.parse8_get8]
  exact alu_parse8_effect s _ k _ _ (by decide) e

theorem aluEvGv_effect (g : Reg16) (e : Operand Reg16) : ∃ t r,
    aluEvGv k g e s = .next t ∧ AluEffect s.params k (valueEv s e) (s.get16 g) s.flags.CF r t.flags ∧
      HoldsEv s t (if stores k then r else valueEv s e) e := by
  refine ⟨_, _, rfl, ?_, holdsEv_writeE16 k (by simp) (by simp) (g := g.code) (by simp) _⟩
  rw [readE16_parse16, apply_ite State.flags, State.writeE16_flags, ite_self, State.parse16_get16]
  exact alu_parse16_effect s _ k _ _ (by decide) e

theorem aluGbEb_effect (g : Reg8) (e : Operand Reg8) : ∃ t r,
    aluGbEb k g e s = .next t ∧ AluEffect s.params k (s.get8 g) (valueEb s e) s.flags.CF r t.flags ∧
      t.get8 g = if stores k then r else s.get8 g := by
  refine ⟨_, _, rfl, ?_, get8_set8_writesBack k (by simp) g _⟩
  rw [readE8_parse8, apply_ite State.flags, State.set8_flags, ite_self, State.parse8_get8]
  exact alu_parse8_effect s _ k _ _ (by decide) e

theorem aluGvEv_effect (g : Reg16) (e : Operand Reg16) : ∃ t r,
    aluGvEv k g e s = .next t ∧ AluEffect s.params k (s.get16 g) (valueEv s e) s.flags.CF r t.flags ∧
      t.get16 g = if stores k then r else s.get16 g := by
  refine ⟨_, _, rfl, ?_, get16_set16_writesBack k (by simp) g _⟩
  rw [readE16_parse16, apply_ite State.flags, State.set16_flags, ite_self, State.parse16_get16]
  exact alu_parse16_effect s _ k _ _ (by decide) e

theorem aluALIb_effect (imm : Byte) : ∃ t r,
    aluALIb k imm s = .next t ∧ AluEffect s.params k (s.get8 .al) imm s.flags.CF r t.flags ∧
      t.get8 .al = if stores k then r else s.get8 .al := by
  refine ⟨_, _, rfl, ?_, get8_set8_writesBack k (by simp) .al _⟩
  rw [apply_ite State.flags, State.set8_flags, ite_self]
  exact s.alu_effect k _ _ (by decide)

theorem aluAXIv_effect (imm : Word) : ∃ t r,
    aluAXIv k imm s = .next t ∧ AluEffect s.params k (s.get16 .ax) imm s.flags.CF r t.flags ∧
      t.get16 .ax = if stores k then r else s.get16 .ax := by
  refine ⟨_, _, rfl, ?_, get16_set16_writesBack k (by simp) .ax _⟩
  rw [apply_ite State.flags, State.set16_flags, ite_self]
  exact s.alu_effect k _ _ (by decide)

end

/-- Settles O11: by the effects of the two forms whose destination is `E`. -/
theorem aluWithDestinationECompletes : Obligations.AluWithDestinationECompletes :=
  ⟨fun k g e s => exec_opEbGb k g e ▸ aluEbGb_effect k s g e, fun k g e s => exec_opEvGv k g e ▸ aluEvGv_effect k s g e⟩

/-- Settles O12: by the effects of the two forms whose destination is `G`. -/
theorem aluWithDestinationGCompletes : Obligations.AluWithDestinationGCompletes :=
  ⟨fun k g e s => exec_opGbEb k g e ▸ aluGbEb_effect k s g e, fun k g e s => exec_opGvEv k g e ▸ aluGvEv_effect k s g e⟩

/-- Settles O13: by the effects of the two forms whose destination is the accumulator. -/
theorem aluWithAccumulatorCompletes : Obligations.AluWithAccumulatorCompletes :=
  ⟨fun k imm s => exec_opALIb k imm ▸ aluALIb_effect k s imm, fun k imm s => exec_opAXIv k imm ▸ aluAXIv_effect k s imm⟩

/-! ### TEST (R140, R302, R303) -/

section
variable (s : State)

theorem testOp8_effect (g : Reg8) (e : Operand Reg8) : ∃ t r,
    testOp8 g e s = .next t ∧ AluEffect s.params .and (valueEb s e) (s.get8 g) s.flags.CF r t.flags ∧
      KeepsRegs s t ∧ KeepsMemory s t := by
  refine ⟨_, valueEb s e &&& s.get8 g, rfl, ?_, keepsRegs_of_eq (by simp), keepsMemory_of_eq (by simp)⟩
  rw [readE8_parse8, State.parse8_get8]
  exact alu_parse8_effect s _ .and _ _ (by decide) e

theorem testOp16_effect (g : Reg16) (e : Operand Reg16) : ∃ t r,
    testOp16 g e s = .next t ∧ AluEffect s.params .and (valueEv s e) (s.get16 g) s.flags.CF r t.flags ∧
      KeepsRegs s t ∧ KeepsMemory s t := by
  refine ⟨_, valueEv s e &&& s.get16 g, rfl, ?_, keepsRegs_of_eq (by simp), keepsMemory_of_eq (by simp)⟩
  rw [readE16_parse16, State.parse16_get16]
  exact alu_parse16_effect s _ .and _ _ (by decide) e

end

/-- Settles O17: by the AND of the parsed state, whose result is stored nowhere, and the plain step TEST makes. -/
theorem testCompletes : Obligations.TestCompletes := by
  refine ⟨fun g e s => ?_, fun g e s => ?_⟩
  · obtain ⟨t, r, ht, he, hr, hm⟩ := testOp8_effect s g e
    obtain ⟨u, hu, p⟩ := testOp8_plain s g e
    cases hu.symm.trans ht
    exact ⟨t, r, ht, he, p.keepsControl, hr, hm, p.ip⟩
  · obtain ⟨t, r, ht, he, hr, hm⟩ := testOp16_effect s g e
    obtain ⟨u, hu, p⟩ := testOp16_plain s g e
    cases hu.symm.trans ht
    exact ⟨t, r, ht, he, p.keepsControl, hr, hm, p.ip⟩

/-! ### Comparisons (R143, R378) -/

section
variable {w : Nat} {a b r : BitVec w} {f : Flags}

/-- The signed value of a word, by the half of the range it lies in. -/
theorem toInt_by_half (h : 0 < w) (v : BitVec w) :
    v.toNat < 2 ^ (w - 1) ∧ v.toInt = v.toNat ∨
      2 ^ (w - 1) ≤ v.toNat ∧ v.toInt = v.toNat - 2 * ((2 ^ (w - 1) : Nat) : Int) := by
  rw [BitVec.toInt_eq_toNat_cond, ← mul_pow_sub_one h.ne' 2]
  push_cast
  omega

/-- The difference with no borrow-in is the exact one, or one range more when the unsigned order is broken. -/
theorem subEffect_toNat (he : SubEffect a b false r f) :
    b.toNat ≤ a.toNat ∧ r.toNat + b.toNat = a.toNat ∨ a.toNat < b.toNat ∧ r.toNat + b.toNat = a.toNat + 2 ^ w := by
  obtain ⟨hr, -⟩ := he
  have ha := a.isLt
  have hb := b.isLt
  have hp : ((2 ^ w : Nat) : Int) = 2 ^ w := by push_cast; rfl
  rw [Bool.toNat_false, ← hp] at hr
  by_cases o : b.toNat ≤ a.toNat
  · rw [Int.emod_eq_of_lt (by omega) (by omega)] at hr
    omega
  · rw [← Int.add_emod_right, Int.emod_eq_of_lt (by omega) (by omega)] at hr
    omega

theorem subEffect_ZF (he : SubEffect a b false r f) : f.ZF = true ↔ a = b := by
  have hr := subEffect_toNat he
  obtain ⟨-, -, -, -, hz, -⟩ := he
  have hb := b.isLt
  rw [hz, ← BitVec.toNat_inj]
  omega

theorem subEffect_CF (he : SubEffect a b false r f) : f.CF = true ↔ a.toNat < b.toNat := by
  obtain ⟨-, hc, -⟩ := he
  rw [hc, Bool.toNat_false, Nat.add_zero]

/-- SF is the sign of the exact signed difference unless it overflows, and then its opposite (R137). -/
theorem subEffect_SF_ne_OF (h : 0 < w) (he : SubEffect a b false r f) :
    f.SF ≠ f.OF ↔ a.toInt < b.toInt := by
  have hr := subEffect_toNat he
  obtain ⟨-, -, -, ho, -, hs, -⟩ := he
  have ha := toInt_by_half h a
  have hb := toInt_by_half h b
  have hra := r.isLt
  have haa := a.isLt
  have hbb := b.isLt
  rw [← mul_pow_sub_one h.ne' 2] at hr hra haa hbb
  have hp : ((2 ^ (w - 1) : Nat) : Int) = 2 ^ (w - 1) := by push_cast; rfl
  rw [FitsSigned, Bool.toNat_false, ← hp] at ho
  rw [ne_eq, Bool.eq_iff_iff, hs, ho]
  generalize 2 ^ (w - 1) = P at *
  omega

/-- The ten conditions are those of ZF, CF and SF against OF. -/
theorem comparisonDecides_of_iff (hz : f.ZF = true ↔ a = b) (hc : f.CF = true ↔ a.toNat < b.toNat)
    (hs : f.SF ≠ f.OF ↔ a.toInt < b.toInt) : ComparisonDecides a b f := by
  have hz' : f.ZF = false ↔ a ≠ b := by rw [← Bool.not_eq_true, hz]
  have hc' : f.CF = false ↔ b.toNat ≤ a.toNat := by rw [← Bool.not_eq_true, hc, not_lt]
  have hs' : f.SF = f.OF ↔ b.toInt ≤ a.toInt := by rw [← not_lt, ← hs, not_not]
  refine ⟨hz, hz', hc, hc', ?_, ?_, hs, hs', ?_, ?_⟩
  · rw [Taken, hc, hz, le_iff_lt_or_eq, BitVec.toNat_inj]
  · rw [Taken, hc', hz', lt_iff_le_and_ne, ne_comm, ne_eq, ne_eq, BitVec.toNat_inj]
  · rw [Taken, hz, hs, or_comm, le_iff_lt_or_eq, BitVec.toInt_inj]
  · rw [Taken, hz', hs', and_comm, lt_iff_le_and_ne, ne_comm, ne_eq, ne_eq, BitVec.toInt_inj]

theorem subEffect_comparisonDecides (h : 0 < w) (he : SubEffect a b false r f) : ComparisonDecides a b f :=
  comparisonDecides_of_iff (subEffect_ZF he) (subEffect_CF he) (subEffect_SF_ne_OF h he)

/-- A form of CMP, by the effect it completes with; where its result would go does not matter. -/
theorem comparisonDecides_of_effect {m : Result} {p : Params} {c : Bool} {Holds : State → BitVec w → Prop} {t : State}
    (h : 0 < w) (he : ∃ u r, m = .next u ∧ AluEffect p .cmp a b c r u.flags ∧ Holds u r) (ht : m = .next t) :
    ComparisonDecides a b t.flags := by
  obtain ⟨u, r, hu, hsub, -⟩ := he
  cases hu.symm.trans ht
  exact subEffect_comparisonDecides h hsub

end

/-- Settles O18: every form of CMP completes with the effect of a subtraction, whose flags decide the ten conditions. -/
theorem comparisonDecidesTheJumps : Obligations.ComparisonDecidesTheJumps := by
  refine ⟨fun g e imm s t => ⟨?_, ?_, ?_, ?_⟩, fun g e imm b s t => ⟨?_, ?_, ?_, ?_, ?_⟩⟩
  · exact comparisonDecides_of_effect (by decide) (aluEbGb_effect .cmp s g e)
  · exact comparisonDecides_of_effect (by decide) (aluGbEb_effect .cmp s g e)
  · exact comparisonDecides_of_effect (by decide) (aluALIb_effect .cmp s imm)
  · exact fun h => comparisonDecides_of_effect (by decide) (group1EbIb_effect .cmp e imm s) (h.elim id id)
  · exact comparisonDecides_of_effect (by decide) (aluEvGv_effect .cmp s g e)
  · exact comparisonDecides_of_effect (by decide) (aluGvEv_effect .cmp s g e)
  · exact comparisonDecides_of_effect (by decide) (aluAXIv_effect .cmp s imm)
  · exact comparisonDecides_of_effect (by decide) (group1EvIv_effect .cmp e imm s)
  · exact comparisonDecides_of_effect (by decide) (group1EvIv_effect .cmp e (sext16 b) s)

/-! ### INC and DEC (R141, R310, R311) -/

theorem exec_incReg16 (r : Reg16) : exec (incReg16 r) = incReg r := by cases r <;> rfl
theorem exec_decReg16 (r : Reg16) : exec (decReg16 r) = decReg r := by cases r <;> rfl

/-- Adding one (R133, R141). -/
theorem addK_one (d : Word) :
    (addK d 1#16 false).1.toNat = (d.toNat + 1) % 2 ^ 16 ∧
      ((addK d 1#16 false).2.OF = true ↔ d.toNat = 0x7FFF) ∧
      ((addK d 1#16 false).2.AF = true ↔ d.toNat % 16 = 15) := by
  have hd := d.isLt
  have hi := toInt_by_half (by decide) d
  refine ⟨addK_toNat d 1#16 false, ?_, ?_⟩
  · rw [addK_OF _ _ _ (by decide), show (1#16).toInt = 1 from rfl, Bool.toNat_false]
    omega
  · rw [addK_AF _ _ _ (by decide), show (1#16).toNat = 1 from rfl, Bool.toNat_false]
    omega

/-- Subtracting one (R134, R141). -/
theorem subK_one (d : Word) :
    (subK d 1#16 false).1.toNat = (d.toNat + (2 ^ 16 - 1)) % 2 ^ 16 ∧
      ((subK d 1#16 false).2.OF = true ↔ d.toNat = 0x8000) ∧
      ((subK d 1#16 false).2.AF = true ↔ d.toNat % 16 = 0) := by
  have hd := d.isLt
  have hi := toInt_by_half (by decide) d
  have hr := subK_toNat d 1#16 false
  rw [show (1#16).toNat = 1 from rfl, Bool.toNat_false] at hr
  refine ⟨by omega, ?_, ?_⟩
  · rw [subK_OF _ _ _ (by decide), show (1#16).toInt = 1 from rfl, Bool.toNat_false]
    omega
  · rw [subK_AF _ _ _ (by decide), show (1#16).toNat = 1 from rfl, Bool.toNat_false]
    omega

/-- What INC and DEC of `r` have in common: CF is left, ZF, SF and PF follow the result, and only `r` changes (R141). -/
def CountsIn (r : Reg16) (s t : State) : Prop :=
  t.flags.CF = s.flags.CF ∧ ResultFlags (t.get16 r) t.flags ∧ KeepsControl s t ∧ KeepsRegsBut r s t ∧
    KeepsMemory s t ∧ t.ip = s.ip

/-- The result goes to `r`, and the flags of its kernel, all but CF, to FLAGS. -/
theorem countsIn_set16 {s t : State} {r : Reg16} {v : Word} {a : ArithFlags} (p : Plain s t)
    (ht : t = (s.setFlags (s.flags.setArithKeepCF a)).set16 r v) (hv : ResultFlags v (s.flags.setArith a)) :
    CountsIn r s t := by
  subst ht
  refine ⟨rfl, ?_, p.keepsControl, keepsRegsBut_set16 rfl r v, keepsMemory_of_eq rfl, p.ip⟩
  rw [State.get16_eq, State.set16_regs, Regs.get16_set16_same]
  exact hv

section
variable (r : Reg16) (s : State)

theorem incReg_effect : ∃ t, incReg r s = .next t ∧ CountsIn r s t ∧
    (t.get16 r).toNat = ((s.get16 r).toNat + 1) % 2 ^ 16 ∧
    (t.flags.OF = true ↔ (s.get16 r).toNat = 0x7FFF) ∧ (t.flags.AF = true ↔ (s.get16 r).toNat % 16 = 15) := by
  obtain ⟨t, h, p⟩ := incReg_plain s r
  obtain ⟨-, -, -, -, hv⟩ := addK_effect s.flags (s.get16 r) 1#16 false (by decide)
  cases h
  refine ⟨_, rfl, countsIn_set16 p rfl hv, ?_⟩
  rw [State.get16_eq, State.set16_regs, Regs.get16_set16_same]
  exact addK_one (s.get16 r)

theorem decReg_effect : ∃ t, decReg r s = .next t ∧ CountsIn r s t ∧
    (t.get16 r).toNat = ((s.get16 r).toNat + (2 ^ 16 - 1)) % 2 ^ 16 ∧
    (t.flags.OF = true ↔ (s.get16 r).toNat = 0x8000) ∧ (t.flags.AF = true ↔ (s.get16 r).toNat % 16 = 0) := by
  obtain ⟨t, h, p⟩ := decReg_plain s r
  obtain ⟨-, -, -, -, hv⟩ := subK_effect s.flags (s.get16 r) 1#16 false (by decide)
  cases h
  refine ⟨_, rfl, countsIn_set16 p rfl hv, ?_⟩
  rw [State.get16_eq, State.set16_regs, Regs.get16_set16_same]
  exact subK_one (s.get16 r)

end

/-- Settles O20: by the effects of INC and DEC, which leave the same things alone. -/
theorem incrementAndDecrementComplete : Obligations.IncrementAndDecrementComplete := by
  intro r s
  obtain ⟨t, ht, kt, hsum, hOF, hAF⟩ := incReg_effect r s
  obtain ⟨u, hu, ku, hdiff, hOF', hAF'⟩ := decReg_effect r s
  rw [exec_incReg16, exec_decReg16]
  refine ⟨t, u, ht, hu, hsum, hOF, hAF, hdiff, hOF', hAF', ?_⟩
  rintro v (rfl | rfl)
  · exact kt
  · exact ku

end Sys2Proof.Machine
end

section
/-! SUPPORT. The addressing unit (41_addressing_unit.md): the transient fields of a ModR/M byte stay as the parse leaves them
(R160 to R162, R169). -/

namespace Sys2Proof.Machine

open Sys2Proof.Spec

/-! ### What the parse leaves in the transient state -/

/-- The record of a ModR/M byte is the transient state the parse makes, by the kind of operand (R161, R162). -/
theorem recordsModRM_of_tr_eq {R : Type} {code : R → BitVec 3} {reg : BitVec 3} {e : Operand R} {s t : State}
    (h : t.tr = (s.parseModRM reg code e).tr) : RecordsModRM code reg e s t := by
  unfold RecordsModRM
  rw [h]
  cases e with
  | reg r => exact ⟨rfl, rfl, rfl, rfl, rfl, rfl⟩
  | mem a => exact ⟨rfl, rfl, rfl, rfl, rfl, rfl⟩

/-! ### Each operand form writes the transient state by its parse only (R169) -/

section
variable {k : AluOp} {s t : State}

/-- A result that is stored or discarded (R139, R140), where storing it leaves the transient state. -/
theorem tr_ite {stored : Prop} [Decidable stored] (h : t.tr = s.tr) : (if stored then t else s).tr = s.tr := by
  rw [apply_ite State.tr, h, ite_self]

theorem aluEbGb_records {g : Reg8} {e : Operand Reg8} (h : aluEbGb k g e s = .next t) :
    RecordsModRM Reg8.code g.code e s t := by
  cases h
  exact recordsModRM_of_tr_eq (tr_ite (State.writeE8_tr ..))

theorem aluEvGv_records {g : Reg16} {e : Operand Reg16} (h : aluEvGv k g e s = .next t) :
    RecordsModRM Reg16.code g.code e s t := by
  cases h
  exact recordsModRM_of_tr_eq (tr_ite (State.writeE16_tr ..))

theorem aluGbEb_records {g : Reg8} {e : Operand Reg8} (h : aluGbEb k g e s = .next t) :
    RecordsModRM Reg8.code g.code e s t := by
  cases h
  exact recordsModRM_of_tr_eq (tr_ite (State.set8_tr ..))

theorem aluGvEv_records {g : Reg16} {e : Operand Reg16} (h : aluGvEv k g e s = .next t) :
    RecordsModRM Reg16.code g.code e s t := by
  cases h
  exact recordsModRM_of_tr_eq (tr_ite (State.set16_tr ..))

theorem group1EbIb_records {e : Operand Reg8} {imm : Byte} (h : group1EbIb k e imm s = .next t) :
    RecordsModRM Reg8.code (groupReg k) e s t := by
  cases h
  exact recordsModRM_of_tr_eq (tr_ite (State.writeE8_tr ..))

theorem group1EvIv_records {e : Operand Reg16} {imm : Word} (h : group1EvIv k e imm s = .next t) :
    RecordsModRM Reg16.code (groupReg k) e s t := by
  cases h
  exact recordsModRM_of_tr_eq (tr_ite (State.writeE16_tr ..))

theorem testOp8_records {g : Reg8} {e : Operand Reg8} (h : testOp8 g e s = .next t) :
    RecordsModRM Reg8.code g.code e s t := by
  cases h
  exact recordsModRM_of_tr_eq (State.alu_tr ..)

theorem testOp16_records {g : Reg16} {e : Operand Reg16} (h : testOp16 g e s = .next t) :
    RecordsModRM Reg16.code g.code e s t := by
  cases h
  exact recordsModRM_of_tr_eq (State.alu_tr ..)

theorem xchgOp8_records {g : Reg8} {e : Operand Reg8} (h : xchgOp8 g e s = .next t) :
    RecordsModRM Reg8.code g.code e s t := by
  cases h
  exact recordsModRM_of_tr_eq (State.writeE8_tr ..)

theorem xchgOp16_records {g : Reg16} {e : Operand Reg16} (h : xchgOp16 g e s = .next t) :
    RecordsModRM Reg16.code g.code e s t := by
  cases h
  exact recordsModRM_of_tr_eq (State.writeE16_tr ..)

end

/-- Settles O19: by the record each operand form leaves; 0x82 has the meaning of 0x80, and 0x83 that of 0x81 on the extended
byte. -/
theorem modRMFieldsAreRecorded : Obligations.ModRMFieldsAreRecorded := by
  refine ⟨fun k g e imm s t => ⟨?_, ?_⟩, fun k g e imm b s t => ⟨?_, ?_⟩⟩
  · rw [exec_opEbGb, exec_opGbEb]
    rintro (h | h | h | h)
    · exact aluEbGb_records h
    · exact aluGbEb_records h
    · exact testOp8_records h
    · exact xchgOp8_records h
  · rw [exec_group80, exec_group82, or_self]
    exact group1EbIb_records
  · rw [exec_opEvGv, exec_opGvEv]
    rintro (h | h | h | h)
    · exact aluEvGv_records h
    · exact aluGvEv_records h
    · exact testOp16_records h
    · exact xchgOp16_records h
  · rw [exec_group81, exec_group83]
    exact fun h => h.elim group1EvIv_records group1EvIv_records

end Sys2Proof.Machine
end

section
/-! SUPPORT. The dispatch core (42_dispatch_core.md): the stack (R204, R344, R345), the prefixes (R193, R195), and what the loop
does to the budget and the halt bit at each class of opcode byte (R190 to R201). -/

namespace Sys2Proof.Machine

open Sys2Proof.Spec

/-! ### PUSH and POP (R344, R345) -/

theorem exec_pushReg16 (r : Reg16) : exec (pushReg16 r) = pushReg r := by cases r <;> rfl
theorem exec_popReg16 (r : Reg16) : exec (popReg16 r) = popReg r := by cases r <;> rfl

/-- Settles O32: the value is read before SP moves, and the word is stored where SP then points. -/
theorem pushCompletes : Obligations.PushCompletes := by
  intro r s
  obtain ⟨t, h, p⟩ := pushReg_plain s r
  rw [exec_pushReg16]
  cases h
  refine ⟨_, rfl, ⟨?_, fun q hq => ?_, ?_, ?_, fun _ hlow hhigh => ?_⟩, rfl, p.keepsControl, rfl, rfl⟩
  · rw [State.get16_eq, State.push_regs, Regs.get16_set16_same]
  · rw [State.get16_eq, State.push_regs, Regs.get16_set16_other _ _ hq, State.get16_eq]
  · rw [State.push_mem, ← Memory.read8, Memory.read8_write16_low, lowByte_toNat]
  · rw [State.push_mem, ← Memory.read8, Memory.read8_write16_high, highByte_toNat]
  · rw [State.push_mem, Memory.read_write16_other _ hlow hhigh]

/-- POP as registers: SP moves up, and the popped word is written last, over SP too (R345). -/
theorem popReg_get16 {r : Reg16} {s t : State} (h : popReg r s = .next t) (q : Reg16) :
    t.get16 q = if q = r then s.read16 (s.getSeg .ss) (s.get16 .sp)
      else if q = .sp then s.get16 .sp + 2#16 else s.get16 q := by
  cases h
  simp only [State.get16_eq, State.set16_regs, Regs.get16_set16, State.pop]

/-- Settles O33: by the registers after the pop, whose only writes are to registers. -/
theorem popCompletes : Obligations.PopCompletes := by
  intro r s
  obtain ⟨t, h, p⟩ := popReg_plain s r
  have hq := popReg_get16 h
  refine ⟨t, exec_popReg16 r ▸ h, ?_, fun hr => ?_, fun q hr hsp => ?_, ?_, p.keepsControl, ?_, p.ip, ?_⟩
  · rw [hq, if_pos rfl]
  · rw [hq, if_neg hr.symm, if_pos rfl]
  · rw [hq, if_neg hr, if_neg hsp]
  all_goals cases h
  · exact rfl
  · exact fun _ => rfl
  · exact rfl

/-! ### Prefixes (R193, R195) -/

theorem exec_overrideBy (r : SegReg) : exec (overrideBy r) = overrideSeg r := by cases r <;> rfl

/-- A memory operand uses the pending override, whatever its default segment (R164). -/
theorem memSeg_of_segOverride {s : State} (h : s.tr.segOverride = true) (a : MemAddr) : memSeg s a = s.tr.seg :=
  if_pos h

/-- Settles O36: each prefix writes the transient state alone, and the override it marks serves every memory operand. -/
theorem prefixesComplete : Obligations.PrefixesComplete := by
  refine ⟨fun r s => ?_, fun s => ⟨rfl, rfl⟩⟩
  rw [exec_overrideBy]
  exact ⟨_, rfl, rfl, fun a => ⟨memSeg_of_segOverride rfl a, rfl⟩⟩

/-- A prefix instruction writes the transient state and nothing else. -/
theorem exec_of_isPrefix {i : Instr} (p : i.isPrefix = true) (s : State) :
    ∃ tr, exec i s = .next { s with tr := tr } := by
  cases i
  case prefixES | prefixCS | prefixSS | prefixDS | repne | rep => exact ⟨_, rfl⟩
  all_goals cases p

/-! ### What a step runs, and when it runs nothing (R190, R191, R200, R201) -/

/-- Settles O38: the meaning of HLT is `haltOp`, in every state. -/
theorem haltCompletes : Obligations.HaltCompletes := fun _ => rfl

/-- Settles O41: an idle step holds the state. -/
theorem noWorkWithoutBudgetOrWhenHalted : Obligations.NoWorkWithoutBudgetOrWhenHalted :=
  fun _ h => step_idle (idle_eq_true.2 h)

/-- Settles O40: a step at a kept entry runs the decoded instruction, and its iteration ends by whether it is a prefix. -/
theorem stepRunsTheDecodedInstruction : Obligations.StepRunsTheDecodedInstruction := by
  intro s i rest hb hh hk hd
  rw [step_decoded (idle_eq_false.2 ⟨hb, hh⟩) (keepsEntry_iff.1 hk) hd]
  change mapNext _ (exec i { s with ip := s.ip + BitVec.ofNat 16 (6 - rest.length) }) = _
  cases exec i { s with ip := s.ip + BitVec.ofNat 16 (6 - rest.length) } with
  | next t => cases hp : i.isPrefix <;> simp [State.endIteration, State.retire, hp]
  | fault r => rfl
  | refused r => rfl

/-! ### The budget and the halt bit after a step (R192, R194, R197) -/

/-- The classes of R103, R106 and D4 share no opcode. -/
theorem prefixBytes_disjoint : ∀ op ∈ prefixBytes, op ∉ Config.haltSet ∧ op ∉ Config.undefSet := by decide

/-- A prefix byte of neither set is in neither default set, so it keeps its entry (log 6). -/
theorem installedAt_of_isPrefixByte {p : Params} {op : Byte} (h : IsPrefixByte p op) : installedAt p op = none := by
  obtain ⟨hb, hh, hu⟩ := h
  obtain ⟨hh', hu'⟩ := prefixBytes_disjoint op hb
  simp only [installedAt, hh, hu, hh', hu', or_self, if_false]

/-- A step at a prefix passes its byte and writes the transient state, and nothing else (R106, R194). -/
theorem step_of_isPrefixByte {s : State} (hi : s.idle = false) (h : IsPrefixByte s.params s.opcodeByte) :
    ∃ tr, step s = .next { s.advanceIP 1 with tr := tr } := by
  obtain ⟨j, hf, hj⟩ := isPrefix_entry _ h.1
  obtain ⟨tr, he⟩ := exec_of_isPrefix hj (s.advanceIP 1)
  refine ⟨tr, ?_⟩
  rw [step_bare hi (installedAt_of_isPrefixByte h) hf, runInstr_next he, State.endIteration, if_pos hj]

/-- No instruction writes the budget, which the loop does (R192), and none but HLT the halt bit (R200). -/
theorem exec_keeps_budget_and_halted {i : Instr} {s t : State} (h : exec i s = .next t) :
    t.budget = s.budget ∧ (i ≠ .hlt → t.halted = s.halted) := by
  cases exec_acts i s with
  | plain u hu p => cases hu.symm.trans h; exact ⟨p.budget, fun _ => p.halted⟩
  | jump u hu p => cases hu.symm.trans h; rw [p]; exact ⟨rfl, fun _ => rfl⟩
  | override r hu => cases hu.symm.trans h; exact ⟨rfl, fun _ => rfl⟩
  | repeats r hu => cases hu.symm.trans h; exact ⟨rfl, fun _ => rfl⟩
  | halt hh hu => cases hu.symm.trans h; exact ⟨rfl, fun hn => absurd hh hn⟩
  | uncovered b hb hu => cases hu.symm.trans h

/-- A step at a byte of neither set that is no prefix retires a state with the budget and the halt bit it had: the byte has
its own entry, and that is not HLT. -/
theorem step_retires {s t : State} (hi : s.idle = false) (hh : s.opcodeByte ∉ s.params.haltSet)
    (hu : s.opcodeByte ∉ s.params.undefSet) (hb : s.opcodeByte ∉ prefixBytes) (h : step s = .next t) :
    ∃ u : State, t = u.retire ∧ u.budget = s.budget ∧ u.halted = s.halted := by
  obtain ⟨k, hk, hs⟩ | ⟨i, rest, hk, hd, hs⟩ := step_runs hi
  · cases k with
    | undefined =>
      obtain ⟨-, hm, -⟩ := installedAt_eq_undefined.1 hk
      exact absurd hm hu
    | halt =>
      obtain ⟨hm, -⟩ := installedAt_eq_halt.1 hk
      exact absurd hm hh
    | uncovered => rw [hs, runInstalled_uncovered] at h; cases h
  · have hp : ¬ i.isPrefix = true := fun hp => hb ((isPrefix_iff hd).1 hp)
    have hn : i ≠ .hlt := by
      rintro rfl
      have ho : 0xF4#8 = s.opcodeByte := opcode_eq_of_decode hd rfl
      obtain ⟨hhalt, -⟩ := keepsEntry_iff.2 hk
      exact hh (hhalt.2 ho.symm)
    rw [hs] at h
    cases he : exec i (s.advanceIP (maxLength - rest.length)) with
    | next u =>
      rw [runInstr_next he, State.endIteration, if_neg hp] at h
      cases h
      obtain ⟨hbudget, hhalted⟩ := exec_keeps_budget_and_halted he
      exact ⟨u, rfl, hbudget, hhalted hn⟩
    | fault r => cases r
    | refused r => rw [runInstr_refused he] at h; cases h

/-- Settles O42: by the class of the opcode byte. A byte of `HALT_SET` halts, one of `UNDEF_SET` does nothing, and a prefix
writes the transient state; any other retires its instruction. -/
theorem budgetCountsNonPrefixInstructions : Obligations.BudgetCountsNonPrefixInstructions := by
  intro s t hi h
  change (IsPrefixByte s.params s.opcodeByte → _) ∧ (¬ IsPrefixByte s.params s.opcodeByte → _) ∧
    (_ ↔ s.opcodeByte ∈ s.params.haltSet)
  obtain ⟨hb, hr⟩ := idle_eq_false.1 hi
  have hpos : s.budget - 1 + 1 = s.budget := by omega
  by_cases hh : s.opcodeByte ∈ s.params.haltSet
  · rw [step_of_mem_haltSet hi hh, runInstalled_halt] at h
    cases h
    exact ⟨fun ⟨_, hn, _⟩ => absurd hh hn, fun _ => ⟨hpos, rfl, rfl⟩, iff_of_true rfl hh⟩
  by_cases hu : s.opcodeByte ∈ s.params.undefSet
  · rw [step_of_mem_undefSet hi hh hu, runInstalled_undefined] at h
    cases h
    exact ⟨fun ⟨_, _, hn⟩ => absurd hu hn, fun _ => ⟨hpos, rfl, rfl⟩, iff_of_false (by simp [hr]) hh⟩
  by_cases hp : s.opcodeByte ∈ prefixBytes
  · obtain ⟨tr, ht⟩ := step_of_isPrefixByte hi ⟨hp, hh, hu⟩
    cases ht.symm.trans h
    exact ⟨fun _ => rfl, fun hn => absurd ⟨hp, hh, hu⟩ hn, iff_of_false (by simp [hr]) hh⟩
  · obtain ⟨u, rfl, hub, huh⟩ := step_retires hi hh hu hp h
    refine ⟨fun ⟨hn, _⟩ => absurd hn hp, fun _ => ⟨?_, rfl, rfl⟩, iff_of_false (by simp [huh, hr]) hh⟩
    rw [State.retire_budget, hub, hpos]

/-! ### A stream of prefixes (R196, R452) -/

/-- Settles O49: by induction on the number of steps. A step at a prefix leaves the segment, the settings, the budget and the
halt bit, so the next byte is a prefix of a running state again. -/
theorem prefixStreamNeverReturns : Obligations.PrefixStreamNeverReturns := by
  intro s hb hh hp k
  induction k generalizing s with
  | zero => exact ⟨s, rfl, idle_eq_false.2 ⟨hb, hh⟩, rfl⟩
  | succ k ih =>
    obtain ⟨tr, hs⟩ := step_of_isPrefixByte (idle_eq_false.2 ⟨hb, hh⟩) (hp s.ip)
    rw [runSteps_succ_next hs]
    exact ih { s.advanceIP 1 with tr := tr } hb hh hp

end Sys2Proof.Machine
end

section
/-! SUPPORT. The test door (log 7): the bytes placed at CS:IP are the bytes the next step looks at (R190, R445). -/

namespace Sys2Proof

theorem bytesOfNat_length (n w : Nat) : (bytesOfNat n w).length = n := by
  induction n generalizing w with
  | zero => rfl
  | succ n ih => rw [bytesOfNat, List.length_cons, ih]

theorem decode_of_decodeTableWord {nbits w : Nat} {i : Instr} (h : decodeTableWord nbits w = some i) :
    ∃ rest, decode (bytesOfNat maxLength (w % 2 ^ nbits)) = .ok (i, rest) := by
  unfold decodeTableWord at h
  split at h
  · next rest hd => cases h; exact ⟨rest, hd⟩
  · cases h

/-- A decoded instruction has taken its opcode byte at least, and its encoding opens with that byte (R91). -/
theorem encode_eq_cons_of_decode {op : Byte} {bs rest : List Byte} {i : Instr} (hd : decode (op :: bs) = .ok (i, rest)) :
    ∃ fields, encode i = op :: fields := by
  obtain ⟨fields, m, rfl⟩ := Form.makes_of_read hd
  refine ⟨fields, List.append_cancel_right (bs := rest) ?_⟩
  rw [encode_of_decode hd, List.cons_append]

end Sys2Proof

namespace Sys2Proof.Machine

/-- Bytes placed from another offset of the segment on do not reach this one, the segment being longer than they are. -/
theorem Memory.read8_place_other (m : Memory) (cs ip off : Word) (bs : List Byte)
    (h : ∀ k < bs.length, off ≠ ip + BitVec.ofNat 16 k) : (m.place cs ip bs).read8 cs off = m.read8 cs off := by
  induction bs generalizing m ip with
  | nil => rfl
  | cons b bs ih =>
    have h0 : off ≠ ip := by simpa using h 0 (by simp)
    rw [Memory.place, ih, Memory.read8, Memory.read_write8_other _ fun e => h0 (phys_inj e), Memory.read8]
    intro k hk e
    refine h (k + 1) (by simpa using hk) ?_
    rw [e, BitVec.add_assoc, ← BitVec.ofNat_add, Nat.add_comm]

/-- The bytes placed are the bytes fetched, when no two of them fall on one offset. -/
theorem Memory.fetch_place (m : Memory) (cs ip : Word) (bs : List Byte) (h : bs.length ≤ 2 ^ 16) :
    (m.place cs ip bs).fetch cs ip bs.length = bs := by
  induction bs generalizing m ip with
  | nil => rfl
  | cons b bs ih =>
    rw [List.length_cons] at h
    rw [Memory.place, List.length_cons, Memory.fetch, ih _ _ (by omega), Memory.read8_place_other,
      Memory.read8_write8_same]
    intro k hk e
    have hn := congrArg BitVec.toNat e
    have := ip.isLt
    simp only [BitVec.toNat_add, BitVec.toNat_ofNat] at hn
    omega

theorem State.withFetchWord_fetchWindow (s : State) (nbits w : Nat) :
    (s.withFetchWord nbits w).fetchWindow = bytesOfNat maxLength (w % 2 ^ nbits) := by
  have hl := bytesOfNat_length maxLength (w % 2 ^ nbits)
  have hf := Memory.fetch_place s.mem (s.getSeg .cs) s.ip _ (hl.le.trans (by decide))
  rwa [hl] at hf

theorem State.withFetchWord_idle (s : State) (nbits w : Nat) : (s.withFetchWord nbits w).idle = false := by
  refine idle_eq_false.2 ⟨?_, rfl⟩
  change (if s.budget = 0 then 1 else s.budget) ≠ 0
  split <;> omega

/-- Settles O44: the window of the next step holds the placed bytes, six of which are enough to decode. -/
theorem placedInstructionIsTheOneRun : Obligations.PlacedInstructionIsTheOneRun := by
  intro s nbits w i hw hk
  obtain ⟨rest, hd⟩ := decode_of_decodeTableWord hw
  rw [← s.withFetchWord_fetchWindow] at hd
  have hl := (s.withFetchWord nbits w).fetchWindow_length
  obtain ⟨j, rest', hd', hlt, hle⟩ := sixBytesAlwaysDecode _ hl.ge
  cases hd.symm.trans hd'
  obtain ⟨fields, he⟩ := encode_eq_cons_of_decode hd
  refine ⟨maxLength - rest.length, ?_, Nat.sub_le _ _,
    step_decoded (s.withFetchWord_idle nbits w) (keepsEntry_iff.1 (hk _ _ he)) hd⟩
  rw [hl] at hlt
  exact Nat.sub_pos_of_lt hlt

end Sys2Proof.Machine
end

section
/-! SUPPORT. Runs of `execute` with a split budget (R190, R197, R455), and what holds of every reachable state (R440). -/

namespace Sys2Proof.Machine

/-! ### Runs of `execute` (R190, R197, R455) -/

/-- The state with `n` more quanta. -/
def State.addBudget (n : Nat) (s : State) : State := { s with budget := s.budget + n }

/-- No meaning reads the budget or writes it (R192). -/
theorem Meaning.addBudget {m : State → Result} (h : Meaning m) (n : Nat) (s : State) :
    m (s.addBudget n) = mapNext (State.addBudget n) (m s) := by
  cases h
  case aluEbGb k g e | aluEvGv k g e | aluGbEb k g e | aluGvEv k g e => cases k <;> cases e <;> rfl
  case group1EbIb k e _ | group1EvIv k e _ => cases k <;> cases e <;> rfl
  case aluALIb k _ | aluAXIv k _ => cases k <;> rfl
  case testOp8 g e | testOp16 g e | xchgOp8 g e | xchgOp16 g e => cases e <;> rfl
  case jumpIf c d => cases hc : condHolds c s.flags <;> simp [Machine.jumpIf, State.addBudget, State.jump, hc]
  all_goals rfl

/-- The quantum consumed (R190) is one of those there were without the `n` more. -/
theorem State.retire_addBudget {s : State} (hb : s.budget ≠ 0) (n : Nat) :
    (s.addBudget n).retire = s.retire.addBudget n := by
  simp only [State.retire, State.addBudget, Nat.sub_add_comm (Nat.pos_of_ne_zero hb)]

theorem State.endIteration_addBudget {s : State} (hb : s.budget ≠ 0) (n : Nat) (i : Instr) :
    (s.addBudget n).endIteration i = (s.endIteration i).addBudget n := by
  unfold State.endIteration
  split
  · rfl
  · exact State.retire_addBudget hb n

theorem State.advanceIP_addBudget (n : Nat) (s : State) (k : Nat) :
    (s.addBudget n).advanceIP k = (s.advanceIP k).addBudget n := rfl

theorem runInstr_addBudget {s : State} (hb : s.budget ≠ 0) (n : Nat) (i : Instr) (k : Nat) :
    runInstr i k (s.addBudget n) = mapNext (State.addBudget n) (runInstr i k s) := by
  rw [runInstr, runInstr, State.advanceIP_addBudget, (exec_meaning i).addBudget]
  cases hu : exec i (s.advanceIP k) with
  | next u =>
    obtain ⟨hbu, -⟩ := exec_keeps_budget_and_halted hu
    simp only [mapNext_next, State.endIteration_addBudget (s := u) (hbu ▸ hb)]
  | fault r => rfl
  | refused r => rfl

/-- A running step does the same with more quanta, and leaves as many more. -/
theorem step_addBudget {s : State} (hi : s.idle = false) (n : Nat) :
    step (s.addBudget n) = mapNext (State.addBudget n) (step s) := by
  obtain ⟨hb, hh⟩ := idle_eq_false.1 hi
  have hi' : (s.addBudget n).idle = false := idle_eq_false.2 ⟨fun e => hb (Nat.eq_zero_of_add_eq_zero_right e), hh⟩
  obtain ⟨h, hp, hs⟩ | ⟨i, rest, hp, hd, hs⟩ := step_runs hi
  · rw [hs, step_installed (s := s.addBudget n) hi' hp]
    cases h with
    | undefined => exact congrArg Host.Outcome.next (State.retire_addBudget (s := s.advanceIP 1) hb n)
    | halt =>
      exact congrArg Host.Outcome.next (State.retire_addBudget (s := { s.advanceIP 1 with halted := true }) hb n)
    | uncovered => rfl
  · rw [hs, step_decoded (s := s.addBudget n) hi' hp hd, runInstr_addBudget hb]

/-- A run reaches the same state with more quanta, once the steps that only held an idle state are left off (R426). -/
theorem runSteps_addBudget {k : Nat} {s t : State} (h : runSteps k s = .next t) (n : Nat) :
    ∃ j, runSteps j (s.addBudget n) = .next (t.addBudget n) := by
  induction k generalizing s with
  | zero => cases h; exact ⟨0, rfl⟩
  | succ k ih =>
    cases hi : s.idle with
    | true => rw [runSteps_idle _ hi] at h; cases h; exact ⟨0, rfl⟩
    | false =>
      cases hs : step s with
      | next u =>
        obtain ⟨j, hj⟩ := ih ((runSteps_succ_next hs).symm.trans h)
        refine ⟨j + 1, ?_⟩
        rw [runSteps_succ_next (t := u.addBudget n) (by rw [step_addBudget hi, hs, mapNext_next]), hj]
      | fault r => cases r
      | refused r => rw [runSteps_succ_refused hs] at h; cases h

/-- A run that goes on from where another ended. -/
theorem runSteps_add {j : Nat} {s t : State} (h : runSteps j s = .next t) (k : Nat) :
    runSteps (j + k) s = runSteps k t := by
  induction j generalizing s with
  | zero => cases h; rw [Nat.zero_add]
  | succ j ih =>
    rw [Nat.succ_add]
    cases hs : step s with
    | next u => rw [runSteps_succ_next hs] at h ⊢; exact ih h
    | fault r => cases r
    | refused r => rw [runSteps_succ_refused hs] at h; cases h

/-- Settles O50: the first run with `m` more quanta ends at the state the second call starts in, and the second run goes on
from there. -/
theorem executeResumes : Obligations.ExecuteResumes := by
  rintro n m s t u ⟨hs, ht, j, hj⟩ hh ⟨-, hu, k, hk⟩
  obtain ⟨j', hj'⟩ := runSteps_addBudget hj m
  have hb : t.budget = 0 := (idle_eq_true.1 ht).resolve_right (by simp [hh])
  have hm : t.addBudget m = { t with budget := m } := by rw [State.addBudget, hb, Nat.zero_add]
  exact ⟨hs, hu, j' + k, (runSteps_add (hm ▸ hj') k).trans hk⟩

/-! ### Reachable states (R197, R440) -/

/-- Settles O54: by induction on how the state was reached. A reset leaves no prefix pending, and a step and a host action
keep the invariant. -/
theorem reachableStatesAreGood : Obligations.ReachableStatesAreGood := by
  intro s h
  induction h with
  | reset p seed ram hm => exact State.good_of_no_prefix hm rfl rfl
  | step _ e ih => exact stepKeepsGoodStates _ _ ih e
  | host a _ e ih => exact hostActionsKeepGoodStates a _ _ ih e

end Sys2Proof.Machine
end

section
/-! SUPPORT. Decimal arithmetic (R224, R254, R314, R315): DAA and DAS run the two-step sequence in integers, and the sequence
turns a binary sum or difference of packed decimal bytes into the decimal one. -/

namespace Sys2Proof.Machine

open Sys2Proof.Spec

/-! ### DAA and DAS in integers (R314, R315) -/

section
variable {s t u : State}

/-- `lo` and `hi` are what the two steps add modulo 2^8. -/
theorem decimalOp_effect {step : Byte → Byte → Byte} {lo hi : Nat}
    (hlo : ∀ v : Byte, (step v 0x06#8).toNat = (v.toNat + lo) % 256)
    (hhi : ∀ v : Byte, (step v 0x60#8).toNat = (v.toNat + hi) % 256) (h : decimalOp step s = .next t) :
    DecimalEffect lo hi s t := by
  cases h
  simp only [DecimalEffect, State.get8_eq, State.set8_regs, Regs.get8_set8_same, State.set8_flags, State.draw_flags,
    State.setFlags_flags, State.decimalFlags, decimalAdjust_AL, decimalAdjust_AF, decimalAdjust_CF, ← lowAdjust_iff]
  refine ⟨(decimalMid step (s.regs.get8 .al) s.flags.AF).toNat, fun h => ?_, fun h => ?_, ?_⟩
  · rw [decimalMid, if_pos h, hlo]
  · rw [decimalMid, if_neg h]
  · simp only [← highAdjust_iff, and_true]
    exact ⟨fun h => by rw [if_pos h, hhi], fun h => by rw [if_neg h]⟩

theorem daaOp_effect (h : daaOp s = .next t) : DecimalEffect 6 0x60 s t :=
  decimalOp_effect (fun v => BitVec.toNat_add v 0x06#8) (fun v => BitVec.toNat_add v 0x60#8) h

theorem dasOp_effect (h : dasOp s = .next t) : DecimalEffect (256 - 6) (256 - 0x60) s t :=
  decimalOp_effect (fun v => by rw [BitVec.toNat_sub, Nat.add_comm]; rfl)
    (fun v => by rw [BitVec.toNat_sub, Nat.add_comm]; rfl) h

/-- The sequence with its tests resolved: `c` and `k` are 1 when the first and the second step fire, else 0. -/
theorem decimalEffect_resolved {lo hi c k mid : Nat} (hd : DecimalEffect lo hi s t) (hc : c ≤ 1) (hk : k ≤ 1)
    (fired : 9 < (s.get8 .al).toNat % 16 ∨ s.flags.AF = true ↔ c = 1)
    (hmid : mid = ((s.get8 .al).toNat + c * lo) % 256) (fired2 : 0x9F < mid ∨ s.flags.CF = true ↔ k = 1) :
    (t.get8 .al).toNat = (mid + k * hi) % 256 ∧ (t.flags.CF = true ↔ k = 1) := by
  obtain ⟨m, hlow, hlow', hhigh, hhigh', -, hcf⟩ := hd
  have hal := (s.get8 .al).isLt
  rw [fired] at hlow hlow'
  obtain rfl : m = mid := by interval_cases c <;> omega
  rw [fired2] at hhigh hhigh' hcf
  exact ⟨by interval_cases k <;> omega, hcf⟩

end

/-! ### Packed decimal bytes by their digits -/

section
variable {a b : Byte}

theorem validBcd_of_digits {v : Byte} {hi lo : Nat} (hhi : hi < 10) (hlo : lo < 10) (h : v.toNat = 16 * hi + lo) :
    ValidBcd v ∧ bcdValue v = 10 * hi + lo := by
  unfold ValidBcd bcdValue
  omega

/-- Adding two digits and a carry `e` gives a digit `d` and a carry `c`. -/
theorem digit_add {x y e : Nat} (hx : x < 10) (hy : y < 10) (he : e ≤ 1) :
    ∃ c d, c ≤ 1 ∧ d < 10 ∧ x + y + e = 10 * c + d :=
  ⟨(x + y + e) / 10, (x + y + e) % 10, by omega, by omega, by omega⟩

/-- Subtracting a digit and a borrow `e` from a digit gives a digit `d` and a borrow `c`. -/
theorem digit_sub {x y e : Nat} (hx : x < 10) (hy : y < 10) (he : e ≤ 1) :
    ∃ c d, c ≤ 1 ∧ d < 10 ∧ x + 10 * c = y + e + d :=
  ⟨1 - (x + 10 - y - e) / 10, (x + 10 - y - e) % 10, by omega, by omega, by omega⟩

variable (ha : ValidBcd a) (hb : ValidBcd b)
include ha hb

/-- The digits `hi` and `lo` and the carries `k` and `c` of the decimal sum: the binary sum lacks 6 for `c` and 0x60 for `k`. -/
theorem bcd_add_digits : ∃ c k hi lo, (c ≤ 1 ∧ k ≤ 1 ∧ hi < 10 ∧ lo < 10) ∧
    a.toNat % 16 + b.toNat % 16 = 10 * c + lo ∧ a.toNat + b.toNat + 6 * c = 160 * k + 16 * hi + lo ∧
    bcdValue a + bcdValue b = 100 * k + (10 * hi + lo) := by
  obtain ⟨hal, hah⟩ := ha
  obtain ⟨hbl, hbh⟩ := hb
  obtain ⟨c, lo, hc, hlo, low⟩ := digit_add hal hbl (Nat.zero_le 1)
  obtain ⟨k, hi, hk, hhi, high⟩ := digit_add hah hbh hc
  unfold bcdValue
  exact ⟨c, k, hi, lo, ⟨hc, hk, hhi, hlo⟩, by omega, by omega, by omega⟩

/-- The digits `hi` and `lo` and the borrows `k` and `c` of the decimal difference: the binary one has 6 too many for `c` and
0x60 for `k`. -/
theorem bcd_sub_digits : ∃ c k hi lo, (c ≤ 1 ∧ k ≤ 1 ∧ hi < 10 ∧ lo < 10) ∧
    a.toNat % 16 + 10 * c = b.toNat % 16 + lo ∧ a.toNat + 160 * k = b.toNat + 16 * hi + lo + 6 * c ∧
    bcdValue a + 100 * k = bcdValue b + (10 * hi + lo) := by
  obtain ⟨hal, hah⟩ := ha
  obtain ⟨hbl, hbh⟩ := hb
  obtain ⟨c, lo, hc, hlo, low⟩ := digit_sub hal hbl (Nat.zero_le 1)
  obtain ⟨k, hi, hk, hhi, high⟩ := digit_sub hah hbh hc
  unfold bcdValue
  exact ⟨c, k, hi, lo, ⟨hc, hk, hhi, hlo⟩, by omega, by omega, by omega⟩

end

/-! ### The sequence after an addition and a subtraction (R224, R254) -/

section
variable {t u : State} {c k hi lo : Nat} (hc : c ≤ 1) (hk : k ≤ 1) (hhi : hi < 10) (hlo : lo < 10)
include hc hk hhi hlo

/-- After an addition each step fires exactly on its carry. The second test does not see the carry of a first step that wraps,
which it does for the sums left out. -/
theorem daa_of_digits {sum : Nat} (hsum : sum + 6 * c = 160 * k + 16 * hi + lo) (hn : sum ∉ List.range' 0xFA 6)
    (hal : (t.get8 .al).toNat = sum % 256) (haf : t.flags.AF = true ↔ 15 < 10 * c + lo)
    (hcf : t.flags.CF = true ↔ 256 ≤ sum) (hd : DecimalEffect 6 0x60 t u) :
    (u.get8 .al).toNat = 16 * hi + lo ∧ (u.flags.CF = true ↔ k = 1) := by
  rw [List.mem_range'_1] at hn
  have fired : 9 < (t.get8 .al).toNat % 16 ∨ t.flags.AF = true ↔ c = 1 := by
    rw [haf, hal]
    interval_cases c <;> omega
  have mid : (160 * k + 16 * hi + lo) % 256 = ((t.get8 .al).toNat + c * 6) % 256 := by
    rw [hal]
    omega
  have fired2 : 0x9F < (160 * k + 16 * hi + lo) % 256 ∨ t.flags.CF = true ↔ k = 1 := by
    rw [hcf]
    interval_cases k <;> omega
  obtain ⟨hu, hcu⟩ := decimalEffect_resolved hd hc hk fired mid fired2
  refine ⟨?_, hcu⟩
  rw [hu]
  omega

/-- After a subtraction each step fires exactly on its borrow. -/
theorem das_of_digits (hal : (t.get8 .al).toNat = 96 * k + 16 * hi + lo + 6 * c) (haf : t.flags.AF = true ↔ c = 1)
    (hcf : t.flags.CF = true ↔ k = 1) (hd : DecimalEffect (256 - 6) (256 - 0x60) t u) :
    (u.get8 .al).toNat = 16 * hi + lo ∧ (u.flags.CF = true ↔ k = 1) := by
  have fired : 9 < (t.get8 .al).toNat % 16 ∨ t.flags.AF = true ↔ c = 1 := by
    rw [haf, hal]
    interval_cases c <;> omega
  have mid : 96 * k + 16 * hi + lo = ((t.get8 .al).toNat + c * (256 - 6)) % 256 := by
    rw [hal]
    omega
  have fired2 : 0x9F < 96 * k + 16 * hi + lo ∨ t.flags.CF = true ↔ k = 1 := by
    rw [hcf]
    omega
  obtain ⟨hu, hcu⟩ := decimalEffect_resolved hd hc hk fired mid fired2
  refine ⟨?_, hcu⟩
  rw [hu]
  omega

end

section
variable {t u : State} {a b : Byte} (ha : ValidBcd a) (hb : ValidBcd b)
include ha hb

/-- R224, R314, from what the two instructions do. -/
theorem decimalSum_of_effects (hn : a.toNat + b.toNat ∉ List.range' 0xFA 6)
    (hs : AddEffect a b false (t.get8 .al) t.flags) (hd : DecimalEffect 6 0x60 t u) :
    ValidBcd (u.get8 .al) ∧ bcdValue (u.get8 .al) = (bcdValue a + bcdValue b) % 100 ∧
      (u.flags.CF = true ↔ 100 ≤ bcdValue a + bcdValue b) := by
  obtain ⟨c, k, hi, lo, ⟨hc, hk, hhi, hlo⟩, low, binary, decimal⟩ := bcd_add_digits ha hb
  obtain ⟨hr, hcf, haf, -⟩ := hs
  obtain ⟨hu, hcu⟩ := daa_of_digits hc hk hhi hlo binary hn hr (low ▸ haf) hcf hd
  obtain ⟨valid, value⟩ := validBcd_of_digits hhi hlo hu
  rw [value, hcu, decimal]
  exact ⟨valid, by omega, by omega⟩

/-- R254, R315, from what the two instructions do. -/
theorem decimalDifference_of_effects (hs : SubEffect a b false (t.get8 .al) t.flags)
    (hd : DecimalEffect (256 - 6) (256 - 0x60) t u) :
    ValidBcd (u.get8 .al) ∧ bcdValue (u.get8 .al) = (bcdValue a + 100 - bcdValue b) % 100 ∧
      (u.flags.CF = true ↔ bcdValue a < bcdValue b) := by
  obtain ⟨c, k, hi, lo, ⟨hc, hk, hhi, hlo⟩, low, binary, decimal⟩ := bcd_sub_digits ha hb
  have hr := subEffect_toNat hs
  have hcf := subEffect_CF hs
  obtain ⟨-, -, haf, -⟩ := hs
  have borrow : a.toNat < b.toNat ↔ k = 1 := by omega
  have half : a.toNat % 16 < b.toNat % 16 + false.toNat ↔ c = 1 := by
    rw [Bool.toNat_false]
    omega
  rw [borrow] at hcf
  rw [half] at haf
  obtain ⟨hu, hcu⟩ := das_of_digits hc hk hhi hlo (by omega) haf hcf hd
  obtain ⟨valid, value⟩ := validBcd_of_digits hhi hlo hu
  rw [value, hcu]
  exact ⟨valid, by omega, by omega⟩

end

/-- Settles O23: ADD AL,Ib has the effect of an addition and DAA that of the sequence, which corrects the sum. -/
theorem daaCorrectsDecimalSums : Obligations.DaaCorrectsDecimalSums := by
  intro s t u b ha hb hn hadd hdaa
  obtain ⟨_, r, e, hs, rfl⟩ := aluALIb_effect .add s b
  cases e.symm.trans hadd
  exact decimalSum_of_effects ha hb hn hs (daaOp_effect hdaa)

/-- Settles O25: SUB AL,Ib has the effect of a subtraction and DAS that of the sequence, which corrects the difference. -/
theorem dasCorrectsDecimalDifferences : Obligations.DasCorrectsDecimalDifferences := by
  intro s t u b ha hb hsub hdas
  obtain ⟨_, r, e, hs, rfl⟩ := aluALIb_effect .sub s b
  cases e.symm.trans hsub
  exact decimalDifference_of_effects ha hb hs (dasOp_effect hdas)

end Sys2Proof.Machine
end

section
/-! SUPPORT. The decimal adjusts as whole instructions (R313 to R317): the value, flags and frame of DAA, DAS, AAA and AAS, and
the decimal sum that DAA does not correct. -/

namespace Sys2Proof.Machine

open Sys2Proof.Spec

/-! ### A byte register after a write to a byte register (R23) -/

section
variable (s : State) {r : Reg8} (v : Byte)

@[simp] theorem State.get8_set8_same : (s.set8 r v).get8 r = v := Regs.get8_set8_same _ _ _

theorem State.get8_set8_other {q : Reg8} (h : q ≠ r) : (s.set8 r v).get8 q = s.get8 q := Regs.get8_set8_other _ _ h

theorem State.get16_set8_other {q : Reg16} (h : q ≠ home r) : (s.set8 r v).get16 q = s.get16 q :=
  Regs.get16_set8_other _ _ h

end

/-! ### DAA and DAS (R314, R315) -/

/-- What DAA and DAS have in common beside AL, AF and CF (R313). -/
def AdjustsAL (s t : State) : Prop :=
  ResultFlags (t.get8 .al) t.flags ∧ (s.params.bcdSideFlags = .asRules → t.flags.OF = s.flags.OF) ∧
    KeepsControl s t ∧ KeepsRegsButByte .al s t ∧ KeepsMemory s t ∧ t.ip = s.ip

theorem decimalFlags_resultFlags (s : State) (q : Byte × Bool × Bool) : ResultFlags q.1 (s.decimalFlags q) :=
  ⟨zeroFlag_iff q.1, signFlag_iff q.1, parityFlag_iff q.1⟩

theorem decimalOp_adjustsAL {s t : State} {step : Byte → Byte → Byte} (p : Plain s t) (h : decimalOp step s = .next t) :
    AdjustsAL s t := by
  cases h
  refine ⟨?_, s.decimalOf_asRules, p.keepsControl, keepsRegsButByte_set8 rfl _ _, keepsMemory_of_eq rfl, p.ip⟩
  rw [State.get8_set8_same]
  exact decimalFlags_resultFlags _ _

/-- Settles O21: both run one sequence, whose steps add for DAA and subtract for DAS, and leave the same things alone. -/
theorem decimalAdjustCompletes : Obligations.DecimalAdjustCompletes := by
  intro s
  obtain ⟨t, ht, pt⟩ := daaOp_plain s
  obtain ⟨u, hu, pu⟩ := dasOp_plain s
  refine ⟨t, u, ht, hu, daaOp_effect ht, dasOp_effect hu, ?_⟩
  rintro v (rfl | rfl)
  · exact decimalOp_adjustsAL pt ht
  · exact decimalOp_adjustsAL pu hu

/-! ### AAA and AAS (R316, R317) -/

/-- The test of AAA and AAS in integers. -/
def AsciiFires (s : State) : Prop := 9 < (s.get8 .al).toNat % 16 ∨ s.flags.AF = true

/-- The AAA and AAS sequence in integers: `lo` and `hi` are what it adds, modulo 2^4 to AL and modulo 2^8 to AH. -/
def AsciiEffect (lo hi : Nat) (s t : State) : Prop :=
  (AsciiFires s → (t.get8 .al).toNat = ((s.get8 .al).toNat + lo) % 16 ∧
    (t.get8 .ah).toNat = ((s.get8 .ah).toNat + hi) % 256) ∧
  (¬ AsciiFires s → (t.get8 .al).toNat = (s.get8 .al).toNat % 16 ∧ (t.get8 .ah).toNat = (s.get8 .ah).toNat)

/-- What AAA and AAS have in common beside AL and AH (R313). -/
def AdjustsAX (s t : State) : Prop :=
  (t.flags.AF = true ↔ AsciiFires s) ∧ (t.flags.CF = true ↔ AsciiFires s) ∧
    (s.params.bcdSideFlags = .asRules → t.flags.ZF = s.flags.ZF ∧ t.flags.SF = s.flags.SF ∧
      t.flags.PF = s.flags.PF ∧ t.flags.OF = s.flags.OF) ∧
    KeepsControl s t ∧ KeepsRegsBut .ax s t ∧ KeepsMemory s t ∧ t.ip = s.ip

theorem lowAdjust_iff_asciiFires (s : State) : lowAdjust (s.get8 .al) s.flags.AF = true ↔ AsciiFires s :=
  lowAdjust_iff _ _

section
variable {s t : State}

/-- AL and AH are the two bytes of the sequence: the write of AL leaves AH. -/
theorem asciiOp_bytes {step : Byte → Byte → Byte} (h : asciiOp step s = .next t) :
    (t.get8 .al, t.get8 .ah) =
      asciiAdjust step (s.get8 .al) (s.get8 .ah) (lowAdjust (s.get8 .al) s.flags.AF) := by
  cases h
  rw [State.get8_set8_same, State.get8_set8_other _ _ (by decide), State.get8_set8_same]

theorem asciiOp_effect {step : Byte → Byte → Byte} {lo hi : Nat}
    (hlo : ∀ v : Byte, (step v 0x06#8).toNat % 16 = (v.toNat + lo) % 16)
    (hhi : ∀ v : Byte, (step v 0x01#8).toNat = (v.toNat + hi) % 256) (h : asciiOp step s = .next t) :
    AsciiEffect lo hi s t := by
  have bytes := asciiOp_bytes h
  refine ⟨fun fired => ?_, fun fired => ?_⟩
  · rw [(lowAdjust_iff_asciiFires s).2 fired, asciiAdjust_fired, Prod.mk.injEq] at bytes
    rw [bytes.1, bytes.2, and_0F_toNat]
    exact ⟨hlo _, hhi _⟩
  · rw [← lowAdjust_iff_asciiFires, Bool.not_eq_true] at fired
    rw [fired, asciiAdjust_not_fired, Prod.mk.injEq] at bytes
    rw [bytes.1, bytes.2, and_0F_toNat]
    exact ⟨rfl, rfl⟩

theorem aaaOp_effect (h : aaaOp s = .next t) : AsciiEffect 6 1 s t :=
  asciiOp_effect (fun v => by rw [BitVec.toNat_add]; exact Nat.mod_mod_of_dvd _ (by decide))
    (fun v => BitVec.toNat_add v 0x01#8) h

theorem aasOp_effect (h : aasOp s = .next t) : AsciiEffect 10 255 s t :=
  asciiOp_effect (fun v => by rw [BitVec.toNat_sub, show (0x06#8).toNat = 6 from rfl]; omega)
    (fun v => by rw [BitVec.toNat_sub, Nat.add_comm]; rfl) h

theorem asciiOp_adjustsAX {step : Byte → Byte → Byte} (p : Plain s t) (h : asciiOp step s = .next t) :
    AdjustsAX s t := by
  cases h
  refine ⟨?_, ?_, fun hp => ?_, p.keepsControl, fun q hq => ?_, keepsMemory_of_eq rfl, p.ip⟩
  · simp only [State.set8_flags, State.draw_flags, State.setFlags_flags, State.asciiFlags_AF, lowAdjust_iff_asciiFires]
  · simp only [State.set8_flags, State.draw_flags, State.setFlags_flags, State.asciiFlags_CF, lowAdjust_iff_asciiFires]
  · simp only [State.set8_flags, State.draw_flags, State.setFlags_flags, State.asciiFlags_asRules s hp, and_self]
  · rw [State.get16_set8_other _ _ hq, State.get16_set8_other _ _ hq]
    rfl

end

/-- Settles O22: both run one sequence, which adds 6 and 1 for AAA and subtracts them for AAS, and leave the same things
alone. -/
theorem asciiAdjustCompletes : Obligations.AsciiAdjustCompletes := by
  intro s
  obtain ⟨t, ht, pt⟩ := aaaOp_plain s
  obtain ⟨u, hu, pu⟩ := aasOp_plain s
  obtain ⟨fired, kept⟩ := aaaOp_effect ht
  obtain ⟨fired', kept'⟩ := aasOp_effect hu
  refine ⟨t, u, ht, hu, fun h => ?_, fun h => ?_, ?_⟩
  · exact ⟨(fired h).1, (fired h).2, fired' h⟩
  · exact ⟨(kept h).1, (kept h).2, kept' h⟩
  · rintro v (rfl | rfl)
    · exact asciiOp_adjustsAX pt ht
    · exact asciiOp_adjustsAX pu hu

/-! ### The sum DAA does not correct (R314, C12) -/

/-- Refutes O24: 99 + 66 = 165, but 0x99 + 0x66 = 0xFF, whose first step wraps to 0x05 and leaves the second test nothing to see:
AL ends at 0x05, not 0x65. -/
theorem not_daaCorrectsEveryDecimalSum : ¬ Obligations.DaaCorrectsEveryDecimalSum := by
  intro h
  obtain ⟨value, -⟩ := h (State.reset.set8 .al 0x99#8) _ _ 0x66#8 ⟨by decide, by decide⟩ ⟨by decide, by decide⟩ rfl rfl
  exact absurd value (by decide)

end Sys2Proof.Machine
end

section
/-! SUPPORT. Data movement (46_data_movement.md): what MOV, XCHG and the pair PUSH and POP do to registers and memory. An
exchange of two registers permutes the register file, so that two of them undo each other. -/

namespace Sys2Proof.Machine

open Sys2Proof.Spec

/-! ### MOV (R330, R331, R333 to R337) -/

theorem exec_movByte (r : Reg8) (imm : Byte) : exec (movByte r imm) = movReg8 r imm := by cases r <;> rfl
theorem exec_movWord (r : Reg16) (imm : Word) : exec (movWord r imm) = movReg16 r imm := by cases r <;> rfl

/-- Settles O26: the one write is to the register. -/
theorem moveImmediateCompletes : Obligations.MoveImmediateCompletes := by
  refine ⟨fun r imm s => ?_, fun r imm s => ?_⟩
  · obtain ⟨t, h, p⟩ := movReg8_plain s r imm
    rw [exec_movByte]
    cases h
    exact ⟨_, rfl, State.get8_set8_same _ _, keepsRegsButByte_set8 rfl r imm, rfl, p.keepsControl, fun _ => rfl, rfl, rfl⟩
  · obtain ⟨t, h, p⟩ := movReg16_plain s r imm
    rw [exec_movWord]
    cases h
    exact ⟨_, rfl, Regs.get16_set16_same _ _ _, keepsRegsBut_set16 rfl r imm, rfl, p.keepsControl, fun _ => rfl, rfl, rfl⟩

/-- Settles O27: AX is assembled of the two bytes read, AL is the first of them. -/
theorem loadDirectCompletes : Obligations.LoadDirectCompletes := by
  intro ow s
  obtain ⟨t, ht, pt⟩ := loadAL_plain s ow
  obtain ⟨u, hu, pu⟩ := loadAX_plain s ow
  cases ht
  cases hu
  refine ⟨_, _, rfl, rfl, State.get8_set8_same _ _, keepsRegsButByte_set8 rfl .al _, lowByte_wordOf _ _,
    highByte_wordOf _ _, keepsRegsBut_set16 rfl .ax _, ?_⟩
  rintro v (rfl | rfl)
  · exact ⟨rfl, pt.keepsControl, fun _ => rfl, rfl, rfl⟩
  · exact ⟨rfl, pu.keepsControl, fun _ => rfl, rfl, rfl⟩

/-- Settles O28: AL and AH are the two bytes of the word stored. -/
theorem storeDirectCompletes : Obligations.StoreDirectCompletes := by
  intro ow s
  obtain ⟨t, ht, pt⟩ := storeAL_plain s ow
  obtain ⟨u, hu, pu⟩ := storeAX_plain s ow
  cases ht
  cases hu
  refine ⟨_, _, rfl, rfl, Memory.read8_write8_same _ _ _ _, fun _ => Memory.read_write8_other _,
    Memory.read8_write16_low _ _ _ _, Memory.read8_write16_high _ _ _ _, fun _ => Memory.read_write16_other _, ?_⟩
  rintro v (rfl | rfl)
  · exact ⟨rfl, pt.keepsControl, fun _ => rfl, rfl, rfl⟩
  · exact ⟨rfl, pu.keepsControl, fun _ => rfl, rfl, rfl⟩

/-! ### XCHG of two registers (R338, R339, R343) -/

/-- Both values are read before either is written: the words of `a` and `b` change places. -/
theorem Regs.get16_exchange (g : Regs) (a b q : Reg16) :
    ((g.set16 b (g.get16 a)).set16 a (g.get16 b)).get16 q = g.get16 (Equiv.swap a b q) := by
  simp only [Regs.get16_set16, Equiv.swap_apply_def, apply_ite g.get16]

theorem Regs.get8_set8 (g : Regs) (r q : Reg8) (v : Byte) : (g.set8 r v).get8 q = if q = r then v else g.get8 q := by
  split
  · next h => rw [h, Regs.get8_set8_same]
  · next h => exact g.get8_set8_other v h

/-- The bytes of `a` and `b` change places, even as the two halves of one register. -/
theorem Regs.get8_exchange (g : Regs) (a b q : Reg8) :
    ((g.set8 b (g.get8 a)).set8 a (g.get8 b)).get8 q = g.get8 (Equiv.swap a b q) := by
  simp only [Regs.get8_set8, Equiv.swap_apply_def, apply_ite g.get8]

section
variable {s t : State}

theorem xchgOp8_reg_get8 {g r : Reg8} (h : xchgOp8 g (.reg r) s = .next t) (q : Reg8) :
    t.get8 q = s.get8 (Equiv.swap g r q) := by
  cases h
  exact s.regs.get8_exchange g r q

theorem xchgOp8_reg_get16_other {g r : Reg8} (h : xchgOp8 g (.reg r) s = .next t) {q : Reg16} (hr : q ≠ home r)
    (hg : q ≠ home g) : t.get16 q = s.get16 q := by
  cases h
  exact (State.get16_set8_other _ _ hg).trans (State.get16_set8_other _ _ hr)

theorem xchgOp8_reg_keepsMemory {g r : Reg8} (h : xchgOp8 g (.reg r) s = .next t) : KeepsMemory s t := by
  cases h
  exact fun _ => rfl

theorem xchgOp16_reg_get16 {g r : Reg16} (h : xchgOp16 g (.reg r) s = .next t) (q : Reg16) :
    t.get16 q = s.get16 (Equiv.swap g r q) := by
  cases h
  exact s.regs.get16_exchange g r q

theorem xchgOp16_reg_keepsMemory {g r : Reg16} (h : xchgOp16 g (.reg r) s = .next t) : KeepsMemory s t := by
  cases h
  exact fun _ => rfl

/-! ### XCHG of a register and memory (R169, R338, R339) -/

/-- The byte register and the byte at `seg:off` have changed places, and nothing else. -/
def ExchangesByte (g : Reg8) (seg off : Word) (s t : State) : Prop :=
  t.get8 g = s.read8 seg off ∧ t.read8 seg off = s.get8 g ∧ KeepsRegsButByte g s t ∧ KeepsMemoryButByte seg off s t

/-- The word register and the word at `seg:off` have changed places, and nothing else. -/
def ExchangesWord (g : Reg16) (seg off : Word) (s t : State) : Prop :=
  t.get16 g = s.read16 seg off ∧ t.read16 seg off = s.get16 g ∧ KeepsRegsBut g s t ∧ KeepsMemoryButWord seg off s t

theorem xchgOp8_mem {g : Reg8} {a : MemAddr} (h : xchgOp8 g (.mem a) s = .next t) :
    ExchangesByte g (memSeg s a) (memOff s a) s t := by
  cases h
  exact ⟨State.get8_set8_same _ _, Memory.read8_write8_same _ _ _ _, keepsRegsButByte_set8 rfl g _,
    fun _ => Memory.read_write8_other _⟩

theorem xchgOp16_mem {g : Reg16} {a : MemAddr} (h : xchgOp16 g (.mem a) s = .next t) :
    ExchangesWord g (memSeg s a) (memOff s a) s t := by
  cases h
  exact ⟨Regs.get16_set16_same _ _ _, Memory.read16_write16_same _ _ _ _, keepsRegsBut_set16 rfl g _,
    fun _ => Memory.read_write16_other _⟩

theorem xchgOp8_keepsFlags {g : Reg8} {e : Operand Reg8} (h : xchgOp8 g e s = .next t) : KeepsFlags s t := by
  cases h
  simp [KeepsFlags]

theorem xchgOp16_keepsFlags {g : Reg16} {e : Operand Reg16} (h : xchgOp16 g e s = .next t) : KeepsFlags s t := by
  cases h
  simp [KeepsFlags]

end

/-- Settles O29: by what each width does to a register operand and to one in memory. -/
theorem exchangeCompletes : Obligations.ExchangeCompletes := by
  refine ⟨fun g e s => ?_, fun g e s => ?_⟩
  · obtain ⟨t, h, p⟩ := xchgOp8_plain s g e
    have hf := xchgOp8_keepsFlags h
    refine ⟨t, h, ?_⟩
    cases e with
    | reg r =>
      have hq := xchgOp8_reg_get8 h
      refine ⟨?_, ?_, hf, p.keepsControl, p.ip, xchgOp8_reg_keepsMemory h, fun q hr hg => ?_,
        fun q => xchgOp8_reg_get16_other h⟩
      · rw [hq, Equiv.swap_apply_left, valueEb]
      · rw [HoldsEb, hq, Equiv.swap_apply_right]
      · rw [hq, Equiv.swap_apply_of_ne_of_ne hg hr]
    | mem a =>
      obtain ⟨hreg, hmem, kr, km⟩ := xchgOp8_mem h
      exact ⟨hreg, hmem, hf, p.keepsControl, p.ip, kr, km⟩
  · obtain ⟨t, h, p⟩ := xchgOp16_plain s g e
    have hf := xchgOp16_keepsFlags h
    refine ⟨t, h, ?_⟩
    cases e with
    | reg r =>
      have hq := xchgOp16_reg_get16 h
      refine ⟨?_, ?_, hf, p.keepsControl, p.ip, xchgOp16_reg_keepsMemory h, fun q hr hg => ?_⟩
      · rw [hq, Equiv.swap_apply_left, valueEv]
      · rw [HoldsEv, hq, Equiv.swap_apply_right]
      · rw [hq, Equiv.swap_apply_of_ne_of_ne hg hr]
    | mem a =>
      obtain ⟨hreg, hmem, kr, km⟩ := xchgOp16_mem h
      exact ⟨hreg, hmem, hf, p.keepsControl, p.ip, kr, km⟩

/-! ### Two exchanges (R341) -/

theorem eq_of_swapped_twice {ι β : Type} [DecidableEq ι] {f g h : ι → β} {a b : ι}
    (hg : ∀ q, g q = f (Equiv.swap a b q)) (hh : ∀ q, h q = g (Equiv.swap a b q)) (q : ι) : h q = f q := by
  rw [hh, hg, Equiv.swap_apply_self]

section
variable {s t u : State}

theorem keepsMemory_trans (h : KeepsMemory s t) (h' : KeepsMemory t u) : KeepsMemory s u := fun c =>
  (h' c).trans (h c)

/-- Equal words of memory have equal bytes (R64). -/
theorem Memory.read8_eq_of_read16_eq {m n : Memory} {seg off : Word} (h : m.read16 seg off = n.read16 seg off) :
    m.read8 seg off = n.read8 seg off ∧ m.read8 seg (off + 1#16) = n.read8 seg (off + 1#16) :=
  ⟨by simpa [Memory.read16] using congrArg lowByte h, by simpa [Memory.read16] using congrArg highByte h⟩

/-- A register file is its 8-bit registers and the registers that have none (R22). -/
theorem keepsRegs_of_halves (h8 : ∀ r, u.get8 r = s.get8 r) (h16 : ∀ q, (∀ r, q ≠ home r) → u.get16 q = s.get16 q) :
    KeepsRegs s u := by
  intro q
  by_cases hq : ∃ r, q = home r
  · obtain ⟨r, rfl⟩ := hq
    obtain ⟨-, -, -, halves⟩ := byteRegistersAreHalvesOfWordRegisters
    obtain ⟨ax, cx, dx, bx⟩ := halves s
    obtain ⟨ax', cx', dx', bx'⟩ := halves u
    cases r <;> simp only [home, ax, cx, dx, bx, ax', cx', dx', bx', h8]
  · exact h16 q (not_exists.1 hq)

/-- The segment of a memory operand is the same after its parse: the override's is recorded, and no other changes. -/
theorem memSeg_of_records {R : Type} {code : R → BitVec 3} {g : BitVec 3} {a : MemAddr} (p : Plain s t)
    (h : RecordsModRM code g (.mem a) s t) : memSeg t a = memSeg s a := by
  obtain ⟨-, -, -, hseg, -⟩ := h
  by_cases ho : s.tr.segOverride = true
  · rw [memSeg_of_segOverride (p.segOverride.trans ho), hseg]
  · simp only [memSeg, State.operandSeg, State.getSeg, p.segOverride, p.sregs, if_neg ho]

theorem ExchangesByte.twice {g : Reg8} {seg off : Word} (h : ExchangesByte g seg off s t)
    (h' : ExchangesByte g seg off t u) : KeepsRegs s u ∧ KeepsMemory s u := by
  obtain ⟨hreg, hmem, ⟨k8, k16⟩, km⟩ := h
  obtain ⟨hreg', hmem', ⟨k8', k16'⟩, km'⟩ := h'
  refine ⟨keepsRegs_of_halves (fun q => ?_) fun q hq => (k16' q (hq g)).trans (k16 q (hq g)), fun c => ?_⟩
  · by_cases hq : q = g
    · rw [hq, hreg', hmem]
    · rw [k8' q hq, k8 q hq]
  · by_cases hc : c = (phys seg off).toNat
    · exact hc ▸ hmem'.trans hreg
    · rw [km' c hc, km c hc]

theorem ExchangesWord.twice {g : Reg16} {seg off : Word} (h : ExchangesWord g seg off s t)
    (h' : ExchangesWord g seg off t u) : KeepsRegs s u ∧ KeepsMemory s u := by
  obtain ⟨hreg, hmem, kr, km⟩ := h
  obtain ⟨hreg', hmem', kr', km'⟩ := h'
  obtain ⟨low, high⟩ := Memory.read8_eq_of_read16_eq (hmem'.trans hreg)
  refine ⟨fun q => ?_, fun c => ?_⟩
  · by_cases hq : q = g
    · rw [hq, hreg', hmem]
    · rw [kr' q hq, kr q hq]
  · by_cases hlow : c = (phys seg off).toNat
    · exact hlow ▸ low
    by_cases hhigh : c = (phys seg (off + 1#16)).toNat
    · exact hhigh ▸ high
    · rw [km' c hlow hhigh, km c hlow hhigh]

theorem xchgOp8_twice {g : Reg8} {e : Operand Reg8} (h : xchgOp8 g e s = .next t) (h' : xchgOp8 g e t = .next u)
    (ho : ∀ a, e = .mem a → memOff t a = memOff s a) : KeepsRegs s u ∧ KeepsMemory s u := by
  cases e with
  | reg r =>
    refine ⟨keepsRegs_of_halves (eq_of_swapped_twice (xchgOp8_reg_get8 h) (xchgOp8_reg_get8 h')) fun q hq => ?_,
      keepsMemory_trans (xchgOp8_reg_keepsMemory h) (xchgOp8_reg_keepsMemory h')⟩
    rw [xchgOp8_reg_get16_other h' (hq r) (hq g), xchgOp8_reg_get16_other h (hq r) (hq g)]
  | mem a =>
    obtain ⟨v, hv, p⟩ := xchgOp8_plain s g (.mem a)
    cases hv.symm.trans h
    have hx := xchgOp8_mem h'
    rw [memSeg_of_records p (xchgOp8_records h), ho a rfl] at hx
    exact (xchgOp8_mem h).twice hx

theorem xchgOp16_twice {g : Reg16} {e : Operand Reg16} (h : xchgOp16 g e s = .next t) (h' : xchgOp16 g e t = .next u)
    (ho : ∀ a, e = .mem a → memOff t a = memOff s a) : KeepsRegs s u ∧ KeepsMemory s u := by
  cases e with
  | reg r =>
    exact ⟨eq_of_swapped_twice (xchgOp16_reg_get16 h) (xchgOp16_reg_get16 h'),
      keepsMemory_trans (xchgOp16_reg_keepsMemory h) (xchgOp16_reg_keepsMemory h')⟩
  | mem a =>
    obtain ⟨v, hv, p⟩ := xchgOp16_plain s g (.mem a)
    cases hv.symm.trans h
    have hx := xchgOp16_mem h'
    rw [memSeg_of_records p (xchgOp16_records h), ho a rfl] at hx
    exact (xchgOp16_mem h).twice hx

theorem xchgAXReg_swaps {r : Reg16} (h : xchgAXReg r s = .next t) (q : Reg16) :
    t.get16 q = s.get16 (Equiv.swap r .ax q) := by
  rw [xchgAXReg_get16 h, Equiv.swap_apply_def, apply_ite s.get16, apply_ite s.get16]

theorem xchgAXReg_keepsMemory {r : Reg16} (h : xchgAXReg r s = .next t) : KeepsMemory s t := by
  cases h
  exact fun _ => rfl

end

/-- Settles O31: a permutation of two registers is its own inverse, and with a memory operand the second exchange finds the
place of the first. -/
theorem exchangeTwiceRestores : Obligations.ExchangeTwiceRestores := by
  refine ⟨fun g e s t u => xchgOp8_twice, fun g e s t u => xchgOp16_twice, fun r s t u h h' => ?_⟩
  rw [exec_xchgWithAX] at h h'
  exact ⟨eq_of_swapped_twice (xchgAXReg_swaps h) (xchgAXReg_swaps h'),
    keepsMemory_trans (xchgAXReg_keepsMemory h) (xchgAXReg_keepsMemory h')⟩

/-! ### PUSH then POP (R344 to R346) -/

theorem pushReg_get16_other {r q : Reg16} {s t : State} (h : pushReg r s = .next t) (hq : q ≠ .sp) :
    t.get16 q = s.get16 q := by
  cases h
  exact Regs.get16_set16_other _ _ hq

theorem pushReg_sp {r : Reg16} {s t : State} (h : pushReg r s = .next t) : t.get16 .sp = s.get16 .sp - 2#16 := by
  cases h
  rfl

/-- The word on the top of the stack is the one pushed (R204, R344). -/
theorem pushReg_top {r : Reg16} {s t : State} (h : pushReg r s = .next t) :
    t.read16 (t.getSeg .ss) (t.get16 .sp) = s.get16 r := by
  cases h
  exact Memory.read16_write16_same _ _ _ _

/-- PUSH `a` then POP `b` writes `a` to `b` and no other register, SP among them. -/
theorem pushReg_popReg_get16 {a b : Reg16} {s t u : State} (h : pushReg a s = .next t) (h' : popReg b t = .next u)
    (q : Reg16) : u.get16 q = if q = b then s.get16 a else s.get16 q := by
  rw [popReg_get16 h', pushReg_top h]
  split_ifs with hb hsp
  · rfl
  · rw [hsp, pushReg_sp h, BitVec.sub_add_cancel]
  · exact pushReg_get16_other h hsp

/-- Settles O34: by the registers after the pair. -/
theorem pushThenPopIsTheIdentity : Obligations.PushThenPopIsTheIdentity := by
  intro a b s t u h h'
  rw [exec_pushReg16] at h
  rw [exec_popReg16] at h'
  have hq := pushReg_popReg_get16 h h'
  refine ⟨by rw [hq, if_pos rfl], fun q hb => by rw [hq, if_neg hb], fun hab q => ?_⟩
  rw [hq, hab]
  split_ifs with hb
  · rw [hb]
  · rfl

end Sys2Proof.Machine
end

section
/-! SUPPORT. Control transfer (47_control_transfer.md): when Jcc and JMP rel8 jump, and where to. -/

namespace Sys2Proof.Machine

open Sys2Proof.Spec

theorem exec_jumpOn (c : Cond) (d : Byte) : exec (jumpOn c d) = jumpIf c d := by cases c <;> rfl

theorem exec_jmpRel8 (d : Byte) : exec (.jmpRel8 d) = jumpRel d := rfl

theorem condHolds_iff_taken (c : Cond) (f : Flags) : condHolds c f = true ↔ Taken c f := by
  cases c <;> simp [condHolds, Taken]

theorem jumpIf_of_taken {c : Cond} {s : State} (h : Taken c s.flags) (d : Byte) :
    jumpIf c d s = .next (s.jump d) := by
  rw [jumpIf, if_pos ((condHolds_iff_taken c s.flags).2 h)]

theorem jumpIf_of_not_taken {c : Cond} {s : State} (h : ¬ Taken c s.flags) (d : Byte) :
    jumpIf c d s = .next s := by
  rw [jumpIf, if_neg (mt (condHolds_iff_taken c s.flags).1 h)]

/-- The target in integers (R360): sign extension keeps the displacement's value, and the sum wraps once at 2^16. -/
theorem State.jump_target (s : State) (d : Byte) :
    ((s.jump d).ip.toNat : Int) = ((s.ip.toNat : Int) + d.toInt) % 2 ^ 16 := by
  have hd : ((sext16 d).toNat : Int) = d.toInt % 2 ^ 16 := by
    rw [sext16, BitVec.signExtend, BitVec.toNat_ofInt]
    omega
  rw [State.jump_ip, BitVec.toNat_add, Int.natCast_emod, Int.natCast_add, hd]
  exact Int.add_emod_emod ..

/-- Settles O35: by whether the jump is taken. -/
theorem jumpsComplete : Obligations.JumpsComplete := by
  refine ⟨fun c d s => ?_, fun d s => ⟨s.jump d, congrFun (exec_jmpRel8 d) s, s.jump_target d, rfl⟩⟩
  rw [exec_jumpOn]
  by_cases h : Taken c s.flags
  · exact ⟨s.jump d, jumpIf_of_taken h d, fun _ => s.jump_target d, absurd h, rfl⟩
  · exact ⟨s, jumpIf_of_not_taken h d, fun ht => absurd ht h, fun _ => rfl, rfl⟩

end Sys2Proof.Machine
end

section
/-! SUPPORT. The reset event the host raises (70_reset_and_hazards.md): it gives the values of R41 and keeps RAM. -/

namespace Sys2Proof.Machine

open Sys2Proof.Spec

@[simp] theorem State.hostReset_get16 (s : State) (seed : Word) (r : Reg16) :
    (s.hostReset seed).get16 r = 0#16 :=
  State.resetWith_get16 s.params seed s.mem r

@[simp] theorem State.hostReset_getSeg (s : State) (seed : Word) (r : SegReg) :
    (s.hostReset seed).getSeg r = 0#16 :=
  State.resetWith_getSeg s.params seed s.mem r

@[simp] theorem State.hostReset_flags_word (s : State) (seed : Word) :
    (s.hostReset seed).flags.word = 0xF02A#16 :=
  State.resetWith_flags_word s.params seed s.mem

/-- RAM is no part of what reset clears (R442). -/
@[simp] theorem State.hostReset_mem (s : State) (seed : Word) : (s.hostReset seed).mem = s.mem := rfl

theorem State.hostReset_keepsMemory (s : State) (seed : Word) : KeepsMemory s (s.hostReset seed) := fun a => by
  rw [State.hostReset_mem]

/-- Settles O56: an idle block takes the reset event, which is the reset of R41 with RAM and the settings carried over. -/
theorem hostResetKeepsRam : Obligations.HostResetKeepsRam := fun s seed hi =>
  ⟨s.hostReset seed, hostAct_reset hi seed, rfl, rfl, rfl, s.hostReset_get16 seed, s.hostReset_getSeg seed,
    s.hostReset_flags_word seed, s.hostReset_keepsMemory seed, rfl⟩

end Sys2Proof.Machine
end
